-- ==== Sys2Proof/Word.lean ====
section
/-! DEFINITION. The word types of I8583-MACBM: a byte, a 32-bit bus word, a 64-bit cipher block and the 128-bit
bitmap vector (spec 00_scope.md R7, R9, R10). -/

namespace Sys2Proof

/-- A byte: one operand, one key, message or expected-MAC byte, or an ASCII code (R7, R71). -/
abbrev Byte := BitVec 8

/-- A 32-bit value of the register window: a command word, STATUS, or a half of RESULT (R22, R70). -/
abbrev Word := BitVec 32

/-- A 64-bit value: a cipher block, a key half, a MAC, RESULT (R7, R10, R24). -/
abbrev Block := BitVec 64

/-- The bitmap as the 128-bit vector `BMV`; field `i` is bit `128 - i` (R9). -/
abbrev Bitmap := BitVec 128

end Sys2Proof
end

