-- ==== Sys2Proof/Config.lean ====
section
/-! DEFINITION. What is fixed for the machine: the sizes of R7, the platform's base address, and the shape of the
cipher parameter (spec 00_scope.md R4, R7, R8). -/

namespace Sys2Proof.Config

/-- The MAC key is 16 bytes (R7). -/
def keyBytes : Nat := 16

/-- A cipher block, a MAC and an expected MAC are 8 bytes (R7). -/
def blockBytes : Nat := 8

/-- The bitmap's field indices are 1..128 (R7, R100). -/
def fields : Nat := 128

/-- The primary half holds the field indices 1..64 (R7). -/
def primaryFields : Nat := 64

/-- The register window is 16 bytes at `base` (R50). -/
def windowBytes : Nat := 16

/-- BASE, the bus address of the register window: open, the platform's (R8, D5), so no value is given to it.
DESIGN CHOICE, safe (log entry 5). -/
opaque base : Nat

/-- The cipher parameter `CIPHER = (E, D)` over 64-bit keys and blocks (R4, R160): key first, block second. -/
structure Cipher where
  /-- `E(k, b)`. -/
  enc : Block → Block → Block
  /-- `D(k, b)`. -/
  dec : Block → Block → Block

/-- What R160 requires of a cipher: each function undoes the other, for every key and block. -/
def Cipher.Lawful (c : Cipher) : Prop :=
  ∀ k b : Block, c.dec k (c.enc k b) = b ∧ c.enc k (c.dec k b) = b

end Sys2Proof.Config
end

