-- ==== Sys2Proof/Syntax.lean ====
section
/-! DEFINITION. The commands of I8583-MACBM: one constructor per row of the opcode map (spec 30_encoding.md R72), with
the operand the row names. Field indices, positions and iteration starts are numbers; data bytes and characters are
bytes (R71). That numbers are Nat is a DESIGN CHOICE, safe (log entry 10). -/

namespace Sys2Proof

/-- A command (R72). The name of a row's operand kind stands in each constructor's docstring (R71). -/
inductive Instr where
  /-- NOP (R180), no operand. -/
  | nop
  /-- ERR_CLR (R181), no operand. -/
  | errClr
  /-- MAC_CLR (R135), no operand. -/
  | macClr
  /-- KEY_LD byte (R131). -/
  | keyLd (byte : Byte)
  /-- MAC_INIT (R132), no operand. -/
  | macInit
  /-- MAC_UPD byte (R133). -/
  | macUpd (byte : Byte)
  /-- MAC_FIN (R134), no operand. -/
  | macFin
  /-- EXP_LD byte (R136). -/
  | expLd (byte : Byte)
  /-- MAC_CHK (R137), no operand. -/
  | macChk
  /-- MAC_RD (R139), no operand. -/
  | macRd
  /-- MAC_RDH pos (R138). -/
  | macRdh (pos : Nat)
  /-- BM_CLR (R102), no operand. -/
  | bmClr
  /-- BM_SET idx (R103). -/
  | bmSet (idx : Nat)
  /-- BM_UNSET idx (R104). -/
  | bmUnset (idx : Nat)
  /-- BM_TEST idx (R105). -/
  | bmTest (idx : Nat)
  /-- BM_NEXT from (R106). -/
  | bmNext (start : Nat)
  /-- BM_RD half (R107). -/
  | bmRd (half : Nat)
  /-- BM_WLEN (R108), no operand. -/
  | bmWlen
  /-- BM_WRH pos (R109). -/
  | bmWrh (pos : Nat)
  /-- BM_LDB (R111), no operand. -/
  | bmLdb
  /-- BM_LDC char (R112). -/
  | bmLdc (char : Byte)
  /-- BM_LDE (R113), no operand. -/
  | bmLde
  deriving DecidableEq, Repr

end Sys2Proof
end

