-- ==== Sys2Proof/WellFormed.lean ====
section
/-! DEFINITION. Which commands can be encoded: an operand that is a number fits the 8-bit field IMM8
(spec 30_encoding.md R70, R71). A byte or character operand is 8 bits by its type, so it needs no check. -/

namespace Sys2Proof

/-- The operand fits IMM8: its value lies in 0..255 (R71, R81). -/
def fitsImm8 (n : Nat) : Bool := decide (n < 256)

/-- The command can be encoded. Values inside 0..255 but outside a command's own range are well formed: the command
runs and raises INDEX_OUT_OF_RANGE (R71, R200). -/
def Instr.wellFormed : Instr → Bool
  | .nop => true
  | .errClr => true
  | .macClr => true
  | .keyLd _ => true
  | .macInit => true
  | .macUpd _ => true
  | .macFin => true
  | .expLd _ => true
  | .macChk => true
  | .macRd => true
  | .macRdh pos => fitsImm8 pos
  | .bmClr => true
  | .bmSet idx => fitsImm8 idx
  | .bmUnset idx => fitsImm8 idx
  | .bmTest idx => fitsImm8 idx
  | .bmNext start => fitsImm8 start
  | .bmRd half => fitsImm8 half
  | .bmWlen => true
  | .bmWrh pos => fitsImm8 pos
  | .bmLdb => true
  | .bmLdc _ => true
  | .bmLde => true

end Sys2Proof
end

