-- ==== Sys2Proof/Decode.lean ====
section
/-! DEFINITION. The command decoder, total on every 32-bit word and rejecting by name, and the encoder beside it, both
from the opcode map (spec 30_encoding.md R70 to R76). -/

namespace Sys2Proof

/-- Why a word is not a legal command (R74). The block reports all three as ILLEGAL_COMMAND; the order in which a word
that breaks several conditions is named is a DESIGN CHOICE that nothing can observe, safe (log entry 16). -/
inductive DecodeError where
  /-- (a) OP is no opcode of the map. -/
  | unknownOpcode
  /-- (c) a command without operand has a nonzero IMM8. -/
  | operandNotZero
  /-- (b) RSV is not zero. -/
  | reservedNotZero
  deriving DecidableEq, Repr

/-- OP, bits 31:24 (R70). -/
def opField (w : Word) : Byte := w.extractLsb' 24 8

/-- RSV, bits 23:8 (R70). -/
def rsvField (w : Word) : BitVec 16 := w.extractLsb' 8 16

/-- IMM8, bits 7:0 (R70). -/
def immField (w : Word) : Byte := w.extractLsb' 0 8

/-- A command without operand requires IMM8 = 0 (R71, R74 (c)). -/
def noOperand (imm : Byte) (i : Instr) : Except DecodeError Instr :=
  if imm = 0 then .ok i else .error .operandNotZero

/-- The opcode map (R72): the command of an opcode and an operand byte. -/
def decodeOp (op imm : Byte) : Except DecodeError Instr :=
  match op.toNat with
  | 0x00 => noOperand imm .nop
  | 0x01 => noOperand imm .errClr
  | 0x10 => noOperand imm .macClr
  | 0x11 => .ok (.keyLd imm)
  | 0x12 => noOperand imm .macInit
  | 0x13 => .ok (.macUpd imm)
  | 0x14 => noOperand imm .macFin
  | 0x15 => .ok (.expLd imm)
  | 0x16 => noOperand imm .macChk
  | 0x17 => noOperand imm .macRd
  | 0x18 => .ok (.macRdh imm.toNat)
  | 0x20 => noOperand imm .bmClr
  | 0x21 => .ok (.bmSet imm.toNat)
  | 0x22 => .ok (.bmUnset imm.toNat)
  | 0x23 => .ok (.bmTest imm.toNat)
  | 0x24 => .ok (.bmNext imm.toNat)
  | 0x25 => .ok (.bmRd imm.toNat)
  | 0x26 => noOperand imm .bmWlen
  | 0x27 => .ok (.bmWrh imm.toNat)
  | 0x28 => noOperand imm .bmLdb
  | 0x29 => .ok (.bmLdc imm)
  | 0x2A => noOperand imm .bmLde
  | _ => .error .unknownOpcode

/-- Decode a command word: legal exactly when OP is in the map, RSV is zero and a command without operand has IMM8 zero
(R74). Every word has an answer (R75), and one word is a whole command (R76). -/
def decode (w : Word) : Except DecodeError Instr :=
  match decodeOp (opField w) (immField w) with
  | .error e => .error e
  | .ok i => if rsvField w = 0 then .ok i else .error .reservedNotZero

/-- The opcode of a command (R72). -/
def Instr.opcode : Instr → Byte
  | .nop => 0x00
  | .errClr => 0x01
  | .macClr => 0x10
  | .keyLd _ => 0x11
  | .macInit => 0x12
  | .macUpd _ => 0x13
  | .macFin => 0x14
  | .expLd _ => 0x15
  | .macChk => 0x16
  | .macRd => 0x17
  | .macRdh _ => 0x18
  | .bmClr => 0x20
  | .bmSet _ => 0x21
  | .bmUnset _ => 0x22
  | .bmTest _ => 0x23
  | .bmNext _ => 0x24
  | .bmRd _ => 0x25
  | .bmWlen => 0x26
  | .bmWrh _ => 0x27
  | .bmLdb => 0x28
  | .bmLdc _ => 0x29
  | .bmLde => 0x2A

/-- The IMM8 field of a command: its operand, or 0 where it has none (R71). -/
def Instr.operand : Instr → Byte
  | .nop => 0
  | .errClr => 0
  | .macClr => 0
  | .keyLd byte => byte
  | .macInit => 0
  | .macUpd byte => byte
  | .macFin => 0
  | .expLd byte => byte
  | .macChk => 0
  | .macRd => 0
  | .macRdh pos => BitVec.ofNat 8 pos
  | .bmClr => 0
  | .bmSet idx => BitVec.ofNat 8 idx
  | .bmUnset idx => BitVec.ofNat 8 idx
  | .bmTest idx => BitVec.ofNat 8 idx
  | .bmNext start => BitVec.ofNat 8 start
  | .bmRd half => BitVec.ofNat 8 half
  | .bmWlen => 0
  | .bmWrh pos => BitVec.ofNat 8 pos
  | .bmLdb => 0
  | .bmLdc char => char
  | .bmLde => 0

/-- Whether a command takes an operand: its row's pattern has `i` bits in 7:0 (R72). -/
def Instr.hasOperand : Instr → Bool
  | .nop => false
  | .errClr => false
  | .macClr => false
  | .keyLd _ => true
  | .macInit => false
  | .macUpd _ => true
  | .macFin => false
  | .expLd _ => true
  | .macChk => false
  | .macRd => false
  | .macRdh _ => true
  | .bmClr => false
  | .bmSet _ => true
  | .bmUnset _ => true
  | .bmTest _ => true
  | .bmNext _ => true
  | .bmRd _ => true
  | .bmWlen => false
  | .bmWrh _ => true
  | .bmLdb => false
  | .bmLdc _ => true
  | .bmLde => false

/-- The word of an opcode and an operand, format C: `(OP << 24) | imm` (R70, R81). -/
def formC (op imm : Byte) : Word := op.setWidth 32 <<< 24 ||| imm.setWidth 32

/-- The word of a command (R70). -/
def encode (i : Instr) : Word := formC i.opcode i.operand

/-- The opcodes that take no operand (R72). -/
def bareOpcodes : List Byte :=
  [0x00, 0x01, 0x10, 0x12, 0x14, 0x16, 0x17, 0x20, 0x26, 0x28, 0x2A]

/-- The opcodes that take an operand (R72). -/
def operandOpcodes : List Byte :=
  [0x11, 0x13, 0x15, 0x18, 0x21, 0x22, 0x23, 0x24, 0x25, 0x27, 0x29]

/-- `Legal(w)` as R74 writes it: the opcode is in the map, RSV is zero, and a word whose opcode takes no operand has
IMM8 zero. -/
def Legal (w : Word) : Prop :=
  (opField w ∈ bareOpcodes ∨ opField w ∈ operandOpcodes) ∧ rsvField w = 0 ∧
    (opField w ∈ bareOpcodes → immField w = 0)

/-- The instruction the decoder reads from an opcode-table word of `nbits` bits (bit 0 the least significant of the
command word; the bits above `nbits` are zero). A command is exactly one 32-bit word (R76), so a longer row is none:
DESIGN CHOICE, safe (log entry 18). -/
def decodeTableWord (nbits w : Nat) : Option Instr :=
  if nbits ≤ 32 then (decode (BitVec.ofNat 32 (w % 2 ^ nbits))).toOption else none

end Sys2Proof
end

