-- ==== Sys2Proof/Machine/Des.lean ====
section
/-! DEFINITION. The block cipher, single DES, with the tables of spec 43_block_cipher.md R161 to R168 and the steps of
R169 to R172. It is the default instance of the parameter CIPHER (00_scope.md R4, R8). -/

namespace Sys2Proof.Machine.Des

/-- `Perm(T, v, N)`: output bit `j` is FIPS input bit `T[j]`, numbered from the most significant end (R160). -/
def perm {n : Nat} (l : Nat) (t : List Nat) (v : BitVec n) : BitVec l :=
  t.foldl (fun r j => r <<< 1 ||| (BitVec.ofBool (v.getLsbD (n - j))).setWidth l) 0

/-- The initial permutation IP (R161). -/
def ipTable : List Nat :=
  [58, 50, 42, 34, 26, 18, 10, 2] ++ [60, 52, 44, 36, 28, 20, 12, 4] ++
  [62, 54, 46, 38, 30, 22, 14, 6] ++ [64, 56, 48, 40, 32, 24, 16, 8] ++
  [57, 49, 41, 33, 25, 17, 9, 1] ++ [59, 51, 43, 35, 27, 19, 11, 3] ++
  [61, 53, 45, 37, 29, 21, 13, 5] ++ [63, 55, 47, 39, 31, 23, 15, 7]

/-- The final permutation FP (R162). -/
def fpTable : List Nat :=
  [40, 8, 48, 16, 56, 24, 64, 32] ++ [39, 7, 47, 15, 55, 23, 63, 31] ++
  [38, 6, 46, 14, 54, 22, 62, 30] ++ [37, 5, 45, 13, 53, 21, 61, 29] ++
  [36, 4, 44, 12, 52, 20, 60, 28] ++ [35, 3, 43, 11, 51, 19, 59, 27] ++
  [34, 2, 42, 10, 50, 18, 58, 26] ++ [33, 1, 41, 9, 49, 17, 57, 25]

/-- The expansion E (R163). -/
def expansionTable : List Nat :=
  [32, 1, 2, 3, 4, 5] ++ [4, 5, 6, 7, 8, 9] ++ [8, 9, 10, 11, 12, 13] ++ [12, 13, 14, 15, 16, 17] ++
  [16, 17, 18, 19, 20, 21] ++ [20, 21, 22, 23, 24, 25] ++ [24, 25, 26, 27, 28, 29] ++ [28, 29, 30, 31, 32, 1]

/-- The permutation P (R164). -/
def pTable : List Nat :=
  [16, 7, 20, 21, 29, 12, 28, 17] ++ [1, 15, 23, 26, 5, 18, 31, 10] ++
  [2, 8, 24, 14, 32, 27, 3, 9] ++ [19, 13, 30, 6, 22, 11, 4, 25]

/-- The permuted choice PC-1 (R165). -/
def pc1Table : List Nat :=
  [57, 49, 41, 33, 25, 17, 9] ++ [1, 58, 50, 42, 34, 26, 18] ++
  [10, 2, 59, 51, 43, 35, 27] ++ [19, 11, 3, 60, 52, 44, 36] ++
  [63, 55, 47, 39, 31, 23, 15] ++ [7, 62, 54, 46, 38, 30, 22] ++
  [14, 6, 61, 53, 45, 37, 29] ++ [21, 13, 5, 28, 20, 12, 4]

/-- The permuted choice PC-2 (R166). -/
def pc2Table : List Nat :=
  [14, 17, 11, 24, 1, 5] ++ [3, 28, 15, 6, 21, 10] ++ [23, 19, 12, 4, 26, 8] ++ [16, 7, 27, 20, 13, 2] ++
  [41, 52, 31, 37, 47, 55] ++ [30, 40, 51, 45, 33, 48] ++ [44, 49, 39, 56, 34, 53] ++ [46, 42, 50, 36, 29, 32]

/-- The left-rotation amounts of rounds 1..16 (R167). -/
def shiftAmounts : List Nat := [1, 1, 2, 2, 2, 2, 2, 2, 1, 2, 2, 2, 2, 2, 2, 1]

/-- S-box 1 (R168). -/
def s1 : List (List Nat) :=
  [[14, 4, 13, 1, 2, 15, 11, 8, 3, 10, 6, 12, 5, 9, 0, 7]] ++
  [[0, 15, 7, 4, 14, 2, 13, 1, 10, 6, 12, 11, 9, 5, 3, 8]] ++
  [[4, 1, 14, 8, 13, 6, 2, 11, 15, 12, 9, 7, 3, 10, 5, 0]] ++
  [[15, 12, 8, 2, 4, 9, 1, 7, 5, 11, 3, 14, 10, 0, 6, 13]]

/-- S-box 2 (R168). -/
def s2 : List (List Nat) :=
  [[15, 1, 8, 14, 6, 11, 3, 4, 9, 7, 2, 13, 12, 0, 5, 10]] ++
  [[3, 13, 4, 7, 15, 2, 8, 14, 12, 0, 1, 10, 6, 9, 11, 5]] ++
  [[0, 14, 7, 11, 10, 4, 13, 1, 5, 8, 12, 6, 9, 3, 2, 15]] ++
  [[13, 8, 10, 1, 3, 15, 4, 2, 11, 6, 7, 12, 0, 5, 14, 9]]

/-- S-box 3 (R168). -/
def s3 : List (List Nat) :=
  [[10, 0, 9, 14, 6, 3, 15, 5, 1, 13, 12, 7, 11, 4, 2, 8]] ++
  [[13, 7, 0, 9, 3, 4, 6, 10, 2, 8, 5, 14, 12, 11, 15, 1]] ++
  [[13, 6, 4, 9, 8, 15, 3, 0, 11, 1, 2, 12, 5, 10, 14, 7]] ++
  [[1, 10, 13, 0, 6, 9, 8, 7, 4, 15, 14, 3, 11, 5, 2, 12]]

/-- S-box 4 (R168). -/
def s4 : List (List Nat) :=
  [[7, 13, 14, 3, 0, 6, 9, 10, 1, 2, 8, 5, 11, 12, 4, 15]] ++
  [[13, 8, 11, 5, 6, 15, 0, 3, 4, 7, 2, 12, 1, 10, 14, 9]] ++
  [[10, 6, 9, 0, 12, 11, 7, 13, 15, 1, 3, 14, 5, 2, 8, 4]] ++
  [[3, 15, 0, 6, 10, 1, 13, 8, 9, 4, 5, 11, 12, 7, 2, 14]]

/-- S-box 5 (R168). -/
def s5 : List (List Nat) :=
  [[2, 12, 4, 1, 7, 10, 11, 6, 8, 5, 3, 15, 13, 0, 14, 9]] ++
  [[14, 11, 2, 12, 4, 7, 13, 1, 5, 0, 15, 10, 3, 9, 8, 6]] ++
  [[4, 2, 1, 11, 10, 13, 7, 8, 15, 9, 12, 5, 6, 3, 0, 14]] ++
  [[11, 8, 12, 7, 1, 14, 2, 13, 6, 15, 0, 9, 10, 4, 5, 3]]

/-- S-box 6 (R168). -/
def s6 : List (List Nat) :=
  [[12, 1, 10, 15, 9, 2, 6, 8, 0, 13, 3, 4, 14, 7, 5, 11]] ++
  [[10, 15, 4, 2, 7, 12, 9, 5, 6, 1, 13, 14, 0, 11, 3, 8]] ++
  [[9, 14, 15, 5, 2, 8, 12, 3, 7, 0, 4, 10, 1, 13, 11, 6]] ++
  [[4, 3, 2, 12, 9, 5, 15, 10, 11, 14, 1, 7, 6, 0, 8, 13]]

/-- S-box 7 (R168). -/
def s7 : List (List Nat) :=
  [[4, 11, 2, 14, 15, 0, 8, 13, 3, 12, 9, 7, 5, 10, 6, 1]] ++
  [[13, 0, 11, 7, 4, 9, 1, 10, 14, 3, 5, 12, 2, 15, 8, 6]] ++
  [[1, 4, 11, 13, 12, 3, 7, 14, 10, 15, 6, 8, 0, 5, 9, 2]] ++
  [[6, 11, 13, 8, 1, 4, 10, 7, 9, 5, 0, 15, 14, 2, 3, 12]]

/-- S-box 8 (R168). -/
def s8 : List (List Nat) :=
  [[13, 2, 8, 4, 6, 15, 11, 1, 10, 9, 3, 14, 5, 0, 12, 7]] ++
  [[1, 15, 13, 8, 10, 3, 7, 4, 12, 5, 6, 11, 0, 14, 9, 2]] ++
  [[7, 11, 4, 1, 9, 12, 14, 2, 0, 6, 10, 13, 15, 3, 5, 8]] ++
  [[2, 1, 14, 7, 4, 10, 8, 13, 15, 12, 9, 0, 3, 5, 6, 11]]

/-- The eight S-boxes in order (R168). -/
def sBoxes : List (List (List Nat)) := [s1, s2, s3, s4] ++ [s5, s6, s7, s8]

/-- One S-box: row `x5 x0`, column `x4 x3 x2 x1` (R168, R170). -/
def substitute (box : List (List Nat)) (six : BitVec 6) : BitVec 4 :=
  let row := (six.getLsbD 5).toNat * 2 + (six.getLsbD 0).toNat
  let col := (six.extractLsb' 1 4).toNat
  BitVec.ofNat 4 ((box.getD row []).getD col 0)

/-- The S-boxes from number `i + 1` on, applied to their six-bit groups of `x` and joined, box 1 the most significant
(R170). -/
def substituteAll (x : BitVec 48) : Nat → List (List (List Nat)) → BitVec 32 → BitVec 32
  | _, [], acc => acc
  | i, box :: rest, acc =>
    substituteAll x (i + 1) rest (acc <<< 4 ||| (substitute box (x.extractLsb' (42 - 6 * i) 6)).setWidth 32)

/-- The round function `f(R, K)` (R170). -/
def roundFunction (r : BitVec 32) (k : BitVec 48) : BitVec 32 :=
  perm 32 pTable (substituteAll (perm 48 expansionTable r ^^^ k) 0 sBoxes 0)

/-- The subkeys of the rounds whose rotation amounts are listed (R169). -/
def subkeysFrom : List Nat → BitVec 28 → BitVec 28 → List (BitVec 48)
  | [], _, _ => []
  | n :: rest, c, d =>
    perm 48 pc2Table (c.rotateLeft n ++ d.rotateLeft n) :: subkeysFrom rest (c.rotateLeft n) (d.rotateLeft n)

/-- The key schedule: the sixteen round keys in order (R169). -/
def subkeys (k : Block) : List (BitVec 48) :=
  let cd : BitVec 56 := perm 56 pc1Table k
  subkeysFrom shiftAmounts (cd.extractLsb' 28 28) (cd.extractLsb' 0 28)

/-- One round: `(L, R) <- (R, L xor f(R, K_i))` (R171). -/
def round (lr : BitVec 32 × BitVec 32) (k : BitVec 48) : BitVec 32 × BitVec 32 :=
  (lr.2, lr.1 ^^^ roundFunction lr.2 k)

/-- The sixteen rounds between IP and FP, with the swap before FP, under a list of round keys (R171). -/
def cipherWith (keys : List (BitVec 48)) (b : Block) : Block :=
  let v : Block := perm 64 ipTable b
  let lr := keys.foldl round (v.extractLsb' 32 32, v.extractLsb' 0 32)
  perm 64 fpTable (lr.2 ++ lr.1)

/-- `E(k, b)` (R171). -/
def encrypt (k b : Block) : Block := cipherWith (subkeys k) b

/-- `D(k, b)`: the subkeys in reverse order (R172). -/
def decrypt (k b : Block) : Block := cipherWith (subkeys k).reverse b

end Sys2Proof.Machine.Des

namespace Sys2Proof.Machine

/-- The block's cipher: DES, the default instance of CIPHER (R4, R8, D2). DESIGN CHOICE of the spec's default; unsafe
for a block built with another cipher (log entry 4). -/
def cipher : Config.Cipher := ⟨Des.encrypt, Des.decrypt⟩

end Sys2Proof.Machine
end

