-- ==== Sys2Proof/Machine/State.lean ====
section
/-! DEFINITION. The state of one I8583-MACBM block (spec 10_state.md R37), the host's side of its register window, the
error codes, and the reasons a step can stop. -/

namespace Sys2Proof.Machine

/-- The error codes of R200. The five kinds marked reserved are never raised by the block; that the
type has them is a DESIGN CHOICE, safe (log entry 14). -/
inductive ErrCode where
  /-- 0x0, success. -/
  | ok
  /-- 0x1, reserved. -/
  | lengthMismatch
  /-- 0x2. -/
  | malformedBitmap
  /-- 0x3, reserved. -/
  | unknownFieldIndex
  /-- 0x4, reserved. -/
  | unknownFieldType
  /-- 0x5, reserved. -/
  | fieldTooLong
  /-- 0x6, reserved. -/
  | bitmapIntegrity
  /-- 0x7. -/
  | macVerification
  /-- 0x8. -/
  | invalidKeyLength
  /-- 0x9. -/
  | indexOutOfRange
  /-- 0xA. -/
  | illegalCommand
  /-- 0xB. -/
  | sequenceError
  /-- 0xC. -/
  | secondaryInUse
  deriving DecidableEq, Repr

/-- What the host, the one bus master, does to the block (R51, R64, R240). The offset counts from BASE in bytes and the
width is in bytes. -/
inductive HostEvent where
  /-- A write. The value is the whole 32-bit value of an aligned 32-bit write; a write of another width is refused
  before its value matters (R52). DESIGN CHOICE, safe (log entry 15). -/
  | write (offset width : Nat) (value : Word)
  /-- A read (R51). -/
  | read (offset width : Nat)
  /-- The platform's reset of the block (R240). -/
  | reset
  deriving DecidableEq, Repr

/-- The state: the registers of R37, then the model's own two fields for the host's side of the window. Counters hold
exactly the range the spec states for them (R37, R11: "No counter wraps"): DEDUCED, unsafe only if a value out of range
could be reached (log entry 11). One block is one state: DESIGN CHOICE, safe (log entry 8). -/
structure State where
  /-- BM: the bitmap; field `i` is bit `128 - i` (R25, R9). -/
  bm : Bitmap
  /-- LD_BUSY: a wire-bitmap load is open (R26). -/
  ldBusy : Bool
  /-- LD_CNT: hex characters taken by the open load, 0..31 (R26). -/
  ldCnt : Fin 32
  /-- LD_SR: the bits decoded so far (R26). -/
  ldSr : Bitmap
  /-- KEY[0..15] (R27). -/
  key : Vector Byte 16
  /-- KEY_CNT: key bytes loaded, 0..16 (R28). -/
  keyCnt : Fin 17
  /-- MAC_ACT: a computation is open (R29). -/
  macAct : Bool
  /-- CV: the chaining value (R30). -/
  cv : Block
  /-- BUF[0..7]: the partial block (R30). -/
  buf : Vector Byte 8
  /-- BCNT: message bytes in BUF, 0..7 (R30). -/
  bcnt : Fin 8
  /-- MACR: the MAC of the last MAC_FIN (R31). -/
  macr : Block
  /-- MAC_VALID: MACR holds a MAC (R31). -/
  macValid : Bool
  /-- EXP[0..7]: the expected MAC (R32). -/
  exp : Vector Byte 8
  /-- EXP_CNT: expected-MAC bytes loaded, 0..8 (R32). -/
  expCnt : Fin 9
  /-- RESULT: the value of the last command that produced one (R24). -/
  result : Block
  /-- ERR: the first error since reset or the last ERR_CLR (R33). -/
  err : BitVec 4
  /-- CERR: the outcome of the most recent command (R33). -/
  cerr : BitVec 4
  /-- The host's accesses not yet serviced, oldest first. The model's own field, DESIGN CHOICE, safe (log entry 1). -/
  pending : List HostEvent
  /-- The words returned to the host's reads, newest first. The model's own field, DESIGN CHOICE, safe
  (log entry 2). -/
  responses : List Word
  deriving DecidableEq, Repr

/-- The machine right after reset: every register 0 (R240), nothing asked by the host and nothing answered
(log entries 1 and 2). -/
def State.reset : State where
  bm := 0
  ldBusy := false
  ldCnt := 0
  ldSr := 0
  key := Vector.replicate 16 0
  keyCnt := 0
  macAct := false
  cv := 0
  buf := Vector.replicate 8 0
  bcnt := 0
  macr := 0
  macValid := false
  exp := Vector.replicate 8 0
  expCnt := 0
  result := 0
  err := 0
  cerr := 0
  pending := []
  responses := []

/-- Why the machine stops with a fault: never. Every command is total and every error is recorded in a next state
(R80, R204, R216), so this type has no constructor. -/
inductive Fault where
  deriving DecidableEq, Repr

/-- Why an access gets no meaning. -/
inductive Refusal where
  /-- An instruction without a meaning; no arm of this model raises it. Safe: the model stops. -/
  | notModelled (mnemonic : String)
  /-- Raised by the window for an access inside it that is not an aligned 32-bit access: a bus error, which "a model
  must not give a value" and "treats as a refusal" (R52, R210). Safe: the model stops. -/
  | busError
  /-- Raised by the window for an access at offset 0x10 or beyond, which does not reach the block (R52, R63).
  Safe: the model stops. -/
  | outsideWindow
  deriving DecidableEq, Repr

/-- What a command, and a step, answers. -/
abbrev Result := Host.Outcome State Fault Refusal

end Sys2Proof.Machine
end

