-- ==== Sys2Proof/Machine/Operands.lean ====
section
/-! DEFINITION. How commands read their operands and the registers' parts: field numbering, the index check, hexadecimal
characters, byte packing (spec 00_scope.md R9, R10, R13; 30_encoding.md R71; 41_bitmap.md R100, R101). -/

namespace Sys2Proof.Machine

/-- `zext_64(imm)` of a number operand (R71). -/
def zext64 (n : Nat) : Block := BitVec.ofNat 64 n

/-- `ValidIdx(i)`: `1 ≤ i ≤ 128` (R100). -/
def validIdx (i : Nat) : Bool := decide (1 ≤ i) && decide (i ≤ Config.fields)

/-- The start of an iteration, `max(imm, 1)` (R106). -/
def iterationStart (imm : Nat) : Nat := max imm 1

/-- Field `i` of a bitmap in field numbering, `BM[i] = BMV[128-i]` for `i` in 1..128 (R9). -/
def fieldBit (v : Bitmap) (i : Nat) : Bool := v.getLsbD (Config.fields - i)

/-- `BM[i] <- b` in field numbering, for `i` in 1..128 (R9, R12). -/
def putField (v : Bitmap) (i : Nat) (b : Bool) : Bitmap :=
  if b then v ||| BitVec.twoPow 128 (Config.fields - i) else v &&& ~~~(BitVec.twoPow 128 (Config.fields - i))

/-- The primary half `BMV[127:64]`, fields 1..64 (R107). -/
def primaryHalf (v : Bitmap) : Block := v.extractLsb' 64 64

/-- The secondary half `BMV[63:0]`, fields 65..128 (R107). -/
def secondaryHalf (v : Bitmap) : Block := v.extractLsb' 0 64

/-- Whether any of fields 65..128 is present, the guard of BM_UNSET 1 (R104). -/
def secondaryInUse (v : Bitmap) : Bool := secondaryHalf v != 0

/-- The least field `j` with `start ≤ j ≤ 128` that is present, if there is one (R106). -/
def nextField (v : Bitmap) (start : Nat) : Option Nat :=
  (List.range' start (Config.fields + 1 - start)).find? (fieldBit v)

/-- `hexchar(v)`: the ASCII code of an uppercase hexadecimal digit (R13). -/
def hexchar (v : BitVec 4) : Byte :=
  if v.toNat ≤ 9 then 0x30 + v.setWidth 8 else 0x41 + (v.setWidth 8 - 10)

/-- `hexval(c)`: the value of a hexadecimal digit in either case, or failure (R13, D12). -/
def hexval (c : Byte) : Option (BitVec 4) :=
  if 0x30 ≤ c.toNat ∧ c.toNat ≤ 0x39 then some (BitVec.ofNat 4 (c.toNat - 0x30))
  else if 0x41 ≤ c.toNat ∧ c.toNat ≤ 0x46 then some (BitVec.ofNat 4 (c.toNat - 0x41 + 10))
  else if 0x61 ≤ c.toNat ∧ c.toNat ≤ 0x66 then some (BitVec.ofNat 4 (c.toNat - 0x61 + 10))
  else none

/-- `WireChar(n)`, for `n` in 0..31: fields `4n+1..4n+4`, the first the most significant (R57, R101). -/
def wireChar (v : Bitmap) (n : Nat) : Byte := hexchar (v.extractLsb' (124 - 4 * n) 4)

/-- Wire character `n` of a MAC, for `n` in 0..15: bits `63-4n` down to `60-4n` (R58). -/
def macChar (m : Block) (n : Nat) : Byte := hexchar (m.extractLsb' (60 - 4 * n) 4)

/-- Character `n` of a load: its bits `v[3..0]` go to fields `4n+1..4n+4` (R112). -/
def putNibble (sr : Bitmap) (n : Nat) (v : BitVec 4) : Bitmap :=
  putField (putField (putField (putField sr (4 * n + 1) (v.getLsbD 3)) (4 * n + 2) (v.getLsbD 2))
    (4 * n + 3) (v.getLsbD 1)) (4 * n + 4) (v.getLsbD 0)

/-- Bytes packed big-endian into a block, the first byte the most significant (R10, R56, D9). -/
def packBlock (bytes : List Byte) : Block :=
  bytes.foldl (fun acc b => acc <<< 8 ||| b.setWidth 64) 0

/-- K1, the first 8 key bytes (R27). -/
def State.k1 (s : State) : Block := packBlock (s.key.toList.take Config.blockBytes)

/-- K2, the last 8 key bytes (R27). -/
def State.k2 (s : State) : Block := packBlock (s.key.toList.drop Config.blockBytes)

/-- The partial block as a cipher block, `BUF[0] || ... || BUF[7]` (R133, R134). -/
def State.bufBlock (s : State) : Block := packBlock s.buf.toList

/-- The expected MAC as a block, `EXP[0] || ... || EXP[7]` (R137). -/
def State.expBlock (s : State) : Block := packBlock s.exp.toList

end Sys2Proof.Machine
end

