-- ==== Sys2Proof/Machine/Flags.lean ====
section
/-! DEFINITION. The views of the state the host reads: the STATUS word and its flags, the active width and the wire
length, the halves of RESULT, and the numbers of the error codes (spec 10_state.md R22, R23; 41_bitmap.md R100;
60_exceptions.md R200). The block has no condition codes (R34). -/

namespace Sys2Proof.Machine

/-- The 4-bit number of an error code (R200). -/
def ErrCode.code : ErrCode → BitVec 4
  | .ok => 0x0
  | .lengthMismatch => 0x1
  | .malformedBitmap => 0x2
  | .unknownFieldIndex => 0x3
  | .unknownFieldType => 0x4
  | .fieldTooLong => 0x5
  | .bitmapIntegrity => 0x6
  | .macVerification => 0x7
  | .invalidKeyLength => 0x8
  | .indexOutOfRange => 0x9
  | .illegalCommand => 0xA
  | .sequenceError => 0xB
  | .secondaryInUse => 0xC

/-- SEC: BM[1], the secondary-bitmap indicator (R23, R25). -/
def State.sec (s : State) : Bool := fieldBit s.bm 1

/-- The active width `W` (R100). -/
def State.activeWidth (s : State) : Nat := if s.sec then 128 else 64

/-- The wire length `WLEN = W / 4` (R100). -/
def State.wlen (s : State) : Nat := s.activeWidth / 4

/-- STATUS, assembled at the moment of the read, the leftmost field the most significant (R23). -/
def State.status (s : State) : Word :=
  (0 : BitVec 3) ++ BitVec.ofNat 5 s.ldCnt.val ++ BitVec.ofNat 4 s.expCnt.val ++ BitVec.ofNat 3 s.bcnt.val ++
    BitVec.ofNat 5 s.keyCnt.val ++ BitVec.ofBool s.sec ++ BitVec.ofBool s.ldBusy ++ BitVec.ofBool s.macValid ++
    BitVec.ofBool s.macAct ++ s.cerr ++ s.err

/-- RESULT_HI, `RESULT[63:32]` (R22). -/
def State.resultHi (s : State) : Word := s.result.extractLsb' 32 32

/-- RESULT_LO, `RESULT[31:0]` (R22). -/
def State.resultLo (s : State) : Word := s.result.extractLsb' 0 32

end Sys2Proof.Machine
end

