-- ==== Sys2Proof/Machine/Ops.lean ====
section
/-! DEFINITION. The operations the commands share: succeeding, raising an error and the abort it brings, returning a
value, and the updates of the key, message and expected-MAC bytes (spec 60_exceptions.md R203, R205, R206;
30_encoding.md R80). The block has no memory (20_memory.md R50), so there are none over memory. Raising an error is this
machine's whole exception entry: nothing is saved and there is nothing to return from (60_exceptions.md R216). -/

namespace Sys2Proof.Machine

/-- The command groups R205 tells apart. -/
inductive Group where
  /-- MAC_GROUP, the opcodes 0x10..0x18. -/
  | mac
  /-- LOADER_GROUP, the opcodes 0x28..0x2A. -/
  | loader
  /-- Every other command, and `none` of ILLEGAL_COMMAND: no abort. -/
  | other
  deriving DecidableEq, Repr

/-- The group of a command (R205). -/
def groupOf : Instr → Group
  | .nop => .other
  | .errClr => .other
  | .macClr => .mac
  | .keyLd _ => .mac
  | .macInit => .mac
  | .macUpd _ => .mac
  | .macFin => .mac
  | .expLd _ => .mac
  | .macChk => .mac
  | .macRd => .mac
  | .macRdh _ => .mac
  | .bmClr => .other
  | .bmSet _ => .other
  | .bmUnset _ => .other
  | .bmTest _ => .other
  | .bmNext _ => .other
  | .bmRd _ => .other
  | .bmWlen => .other
  | .bmWrh _ => .other
  | .bmLdb => .loader
  | .bmLdc _ => .loader
  | .bmLde => .loader

/-- ABORT_MAC: every MAC-engine register to its reset value (R206). -/
def State.abortMac (s : State) : State :=
  { s with
    key := Vector.replicate 16 0, keyCnt := 0, macAct := false, cv := 0, buf := Vector.replicate 8 0, bcnt := 0,
    macr := 0, macValid := false, exp := Vector.replicate 8 0, expCnt := 0 }

/-- ABORT_LD: the loader to idle; BM is not touched (R206). -/
def State.abortLd (s : State) : State := { s with ldBusy := false, ldCnt := 0, ldSr := 0 }

/-- The abort a failing command of a group brings (R205). -/
def State.abort (g : Group) (s : State) : State :=
  match g with
  | .mac => s.abortMac
  | .loader => s.abortLd
  | .other => s

/-- The error record: RESULT 0, CERR the code, ERR the code when it was 0 (R203, R205). -/
def State.recordError (c : ErrCode) (s : State) : State :=
  { s with result := 0, cerr := c.code, err := if s.err = 0 then c.code else s.err }

/-- `raise Err(c)` in a command of group `g`: the aborts, then the record, and nothing else; the caller gives the state
the command started in, so that none of its own writes survive (R12, R205). -/
def raise (g : Group) (c : ErrCode) (s : State) : Result := .next ((s.abort g).recordError c)

/-- CERR 0, as after every successful command; ERR unchanged (R80, R203): DEDUCED, safe
(log entry 12). -/
def State.complete (s : State) : State := { s with cerr := 0 }

/-- A command succeeds, leaving `s` (R80). -/
def succeed (s : State) : Result := .next s.complete

/-- RESULT takes a value (R24). -/
def State.setResult (v : Block) (s : State) : State := { s with result := v }

/-- BM takes a value (R25). -/
def State.setBm (v : Bitmap) (s : State) : State := { s with bm := v }

/-- A command succeeds with a value in RESULT (R24). -/
def succeedWith (v : Block) (s : State) : Result := succeed (s.setResult v)

/-- `KEY[KEY_CNT] <- b; KEY_CNT <- KEY_CNT + 1`, for `KEY_CNT < 16` (R131). -/
def State.appendKey (b : Byte) (s : State) : State :=
  { s with key := s.key.setIfInBounds s.keyCnt.val b, keyCnt := s.keyCnt + 1 }

/-- `EXP[EXP_CNT] <- b; EXP_CNT <- EXP_CNT + 1`, for `EXP_CNT < 8` (R136). -/
def State.appendExp (b : Byte) (s : State) : State :=
  { s with exp := s.exp.setIfInBounds s.expCnt.val b, expCnt := s.expCnt + 1 }

/-- `BUF[BCNT] <- b` (R133). -/
def State.putMessageByte (b : Byte) (s : State) : State := { s with buf := s.buf.setIfInBounds s.bcnt.val b }

/-- A full block is absorbed: `CV <- E(K1, CV xor BUF)`, BUF and BCNT to 0 (R133). -/
def State.absorbBlock (s : State) : State :=
  { s with cv := cipher.enc s.k1 (s.cv ^^^ s.bufBlock), buf := Vector.replicate 8 0, bcnt := 0 }

/-- Open a computation: MAC_ACT 1, the IV in CV, an empty BUF, no MAC (R132). -/
def State.openMac (s : State) : State :=
  { s with macAct := true, cv := 0, buf := Vector.replicate 8 0, bcnt := 0, macr := 0, macValid := false }

/-- `first`, `second` and the MAC of the block in BUF: steps 3 to 5 on the last block (R134). -/
def State.finalMac (s : State) : Block :=
  cipher.enc s.k1 (cipher.dec s.k2 (cipher.enc s.k1 (s.cv ^^^ s.bufBlock)))

/-- Close a computation with its MAC: the key, the chain and the buffer to 0, the MAC in MACR (R134). -/
def State.closeMac (mac : Block) (s : State) : State :=
  { s with
    key := Vector.replicate 16 0, keyCnt := 0, macAct := false, cv := 0, buf := Vector.replicate 8 0, bcnt := 0,
    macr := mac, macValid := true }

/-- EXP and EXP_CNT to 0 (R137). -/
def State.clearExp (s : State) : State := { s with exp := Vector.replicate 8 0, expCnt := 0 }

/-- Open a load (R111). -/
def State.openLoad (s : State) : State := { s with ldBusy := true, ldCnt := 0, ldSr := 0 }

/-- Character number `LD_CNT` with value `v` is taken into `sr`, the new LD_SR: the load goes on, or, with the 16th
character of a primary bitmap or the 32nd, it commits and goes idle. `LD_CNT + 1` is computed without bound, since
R112 compares it with 32 before it is stored (R112): DEDUCED, safe (log entry 17). -/
def State.takeNibble (v : BitVec 4) (s : State) : State :=
  let sr := putNibble s.ldSr s.ldCnt.val v
  if (s.ldCnt.val + 1 = 16 ∧ fieldBit sr 1 = false) ∨ s.ldCnt.val + 1 = 32 then
    { s with bm := sr, ldBusy := false, ldCnt := 0, ldSr := 0 }
  else
    { s with ldCnt := s.ldCnt + 1, ldSr := sr }

end Sys2Proof.Machine
end

