-- ==== Sys2Proof/Machine/Bitmap.lean ====
section
/-! DEFINITION. The bitmap unit's register commands (spec 41_bitmap.md R102 to R109). They act on BM, whether or not a
load is open, and never on the loader (70_reset_and_hazards.md R254). -/

namespace Sys2Proof.Machine

/-- BM_CLR (R102). -/
def execBmClr (s : State) : Result := succeed (s.setBm 0)

/-- BM_SET idx: writes 1, and activates the secondary half for an index above 64 (R103). -/
def execBmSet (idx : Nat) (s : State) : Result :=
  if !validIdx idx then raise .other .indexOutOfRange s
  else if idx > Config.primaryFields then succeed (s.setBm (putField (putField s.bm idx true) 1 true))
  else succeed (s.setBm (putField s.bm idx true))

/-- BM_UNSET idx: writes 0, but for bit 1 while a secondary field is present (R104). -/
def execBmUnset (idx : Nat) (s : State) : Result :=
  if !validIdx idx then raise .other .indexOutOfRange s
  else if idx = 1 ∧ secondaryInUse s.bm then raise .other .secondaryInUse s
  else succeed (s.setBm (putField s.bm idx false))

/-- BM_TEST idx (R105). -/
def execBmTest (idx : Nat) (s : State) : Result :=
  if !validIdx idx then raise .other .indexOutOfRange s
  else succeedWith ((BitVec.ofBool (fieldBit s.bm idx)).setWidth 64) s

/-- BM_NEXT from: the least present index from `max(from, 1)` on, or 0 (R106). -/
def execBmNext (start : Nat) (s : State) : Result :=
  succeedWith (zext64 ((nextField s.bm (iterationStart start)).getD 0)) s

/-- BM_RD half (R107). -/
def execBmRd (half : Nat) (s : State) : Result :=
  if half = 0 then succeedWith (primaryHalf s.bm) s
  else if half = 1 then succeedWith (secondaryHalf s.bm) s
  else raise .other .indexOutOfRange s

/-- BM_WLEN (R108). -/
def execBmWlen (s : State) : Result := succeedWith (zext64 s.wlen) s

/-- BM_WRH pos (R109). -/
def execBmWrh (pos : Nat) (s : State) : Result :=
  if pos ≥ s.wlen then raise .other .indexOutOfRange s
  else succeedWith ((wireChar s.bm pos).setWidth 64) s

end Sys2Proof.Machine
end

