-- ==== Sys2Proof/Machine/Control.lean ====
section
/-! DEFINITION. The control commands (spec 44_control.md R180, R181). -/

namespace Sys2Proof.Machine

/-- NOP: no change but CERR 0 (R180). -/
def execNop (s : State) : Result := succeed s

/-- ERR_CLR: ERR and CERR to 0; no abort is undone (R181). -/
def execErrClr (s : State) : Result := succeed { s with err := 0 }

end Sys2Proof.Machine
end

