-- ==== Sys2Proof/Machine/Loader.lean ====
section
/-! DEFINITION. The wire-form loader's commands (spec 41_bitmap.md R110 to R113). -/

namespace Sys2Proof.Machine

/-- BM_LDB: begin a load (R111). -/
def execBmLdb (s : State) : Result :=
  if s.ldBusy then raise .loader .sequenceError s
  else succeed s.openLoad

/-- BM_LDC char: take one wire character (R112). -/
def execBmLdc (char : Byte) (s : State) : Result :=
  if !s.ldBusy then raise .loader .sequenceError s
  else
    match hexval char with
    | none => raise .loader .malformedBitmap s
    | some v => succeed (s.takeNibble v)

/-- BM_LDE: end of input (R113). -/
def execBmLde (s : State) : Result :=
  if s.ldBusy then raise .loader .malformedBitmap s
  else succeed s

end Sys2Proof.Machine
end

