-- ==== Sys2Proof/Machine/Mac.lean ====
section
/-! DEFINITION. The MAC engine commands (spec 42_mac_engine.md R131 to R139). A check that comes first in a command's
pseudocode comes first here (60_exceptions.md R202). -/

namespace Sys2Proof.Machine

/-- MAC_CLR: ABORT_MAC's writes as a success (R135). -/
def execMacClr (s : State) : Result := succeed s.abortMac

/-- KEY_LD byte (R131). -/
def execKeyLd (byte : Byte) (s : State) : Result :=
  if s.macAct then raise .mac .sequenceError s
  else if s.keyCnt.val = Config.keyBytes then raise .mac .invalidKeyLength s
  else succeed (s.appendKey byte)

/-- MAC_INIT (R132). -/
def execMacInit (s : State) : Result :=
  if s.macAct then raise .mac .sequenceError s
  else if s.keyCnt.val ≠ Config.keyBytes then raise .mac .invalidKeyLength s
  else succeed s.openMac

/-- MAC_UPD byte (R133). -/
def execMacUpd (byte : Byte) (s : State) : Result :=
  if !s.macAct then raise .mac .sequenceError s
  else if s.bcnt = 7 then succeed (s.putMessageByte byte).absorbBlock
  else succeed { s.putMessageByte byte with bcnt := s.bcnt + 1 }

/-- MAC_FIN (R134). -/
def execMacFin (s : State) : Result :=
  if !s.macAct then raise .mac .sequenceError s
  else succeedWith s.finalMac (s.closeMac s.finalMac)

/-- EXP_LD byte (R136). -/
def execExpLd (byte : Byte) (s : State) : Result :=
  if s.expCnt.val = Config.blockBytes then raise .mac .sequenceError s
  else succeed (s.appendExp byte)

/-- MAC_CHK (R137): all 64 bits compared. -/
def execMacChk (s : State) : Result :=
  if !s.macValid ∨ s.expCnt.val ≠ Config.blockBytes then raise .mac .sequenceError s
  else if s.expBlock ≠ s.macr then raise .mac .macVerification s
  else succeedWith 1 s.clearExp

/-- MAC_RD (R139). -/
def execMacRd (s : State) : Result :=
  if !s.macValid then raise .mac .sequenceError s
  else succeedWith s.macr s

/-- MAC_RDH pos (R138). -/
def execMacRdh (pos : Nat) (s : State) : Result :=
  if !s.macValid then raise .mac .sequenceError s
  else if pos > 15 then raise .mac .indexOutOfRange s
  else succeedWith ((macChar s.macr pos).setWidth 64) s

end Sys2Proof.Machine
end

