-- ==== Sys2Proof/Machine/Dispatch.lean ====
section
/-! DEFINITION. One arm per command, each one call of its meaning (spec 30_encoding.md R72, R80). -/

namespace Sys2Proof.Machine

def exec (i : Instr) (s : State) : Host.Outcome State Fault Refusal :=
  match i with
  | .nop => Sys2Proof.Machine.execNop s
  | .errClr => Sys2Proof.Machine.execErrClr s
  | .macClr => Sys2Proof.Machine.execMacClr s
  | .keyLd byte => Sys2Proof.Machine.execKeyLd byte s
  | .macInit => Sys2Proof.Machine.execMacInit s
  | .macUpd byte => Sys2Proof.Machine.execMacUpd byte s
  | .macFin => Sys2Proof.Machine.execMacFin s
  | .expLd byte => Sys2Proof.Machine.execExpLd byte s
  | .macChk => Sys2Proof.Machine.execMacChk s
  | .macRd => Sys2Proof.Machine.execMacRd s
  | .macRdh pos => Sys2Proof.Machine.execMacRdh pos s
  | .bmClr => Sys2Proof.Machine.execBmClr s
  | .bmSet idx => Sys2Proof.Machine.execBmSet idx s
  | .bmUnset idx => Sys2Proof.Machine.execBmUnset idx s
  | .bmTest idx => Sys2Proof.Machine.execBmTest idx s
  | .bmNext start => Sys2Proof.Machine.execBmNext start s
  | .bmRd half => Sys2Proof.Machine.execBmRd half s
  | .bmWlen => Sys2Proof.Machine.execBmWlen s
  | .bmWrh pos => Sys2Proof.Machine.execBmWrh pos s
  | .bmLdb => Sys2Proof.Machine.execBmLdb s
  | .bmLdc char => Sys2Proof.Machine.execBmLdc char s
  | .bmLde => Sys2Proof.Machine.execBmLde s

end Sys2Proof.Machine
end

