-- ==== Sys2Proof/Machine/Window.lean ====
section
/-! DEFINITION. The register window: what a command word does, and how one host access is serviced (spec 20_memory.md
R50 to R53, R59, R63; 30_encoding.md R80; 70_reset_and_hazards.md R240). -/

namespace Sys2Proof.Machine

/-- `Step(w)`: run the command a word encodes, or raise ILLEGAL_COMMAND, which aborts nothing (R80, R74, R205). -/
def runWord (w : Word) (s : State) : Result :=
  match decode w with
  | .ok i => exec i s
  | .error _ => raise .other .illegalCommand s

/-- The platform's reset: every register to its R240 value. The host's accesses still to come and the words it has read
are not the block's registers, so they stay (R240): DEDUCED, safe (log entry 9). -/
def State.applyReset (s : State) : State :=
  { State.reset with pending := s.pending, responses := s.responses }

/-- What a read of an accepted offset returns (R51): 0 for CMD, which is write-only. -/
def State.readWindow (offset : Nat) (s : State) : Word :=
  if offset = 0x4 then s.status
  else if offset = 0x8 then s.resultHi
  else if offset = 0xC then s.resultLo
  else 0

/-- Why an access is refused, or `none` where it is an aligned 32-bit access inside the window (R52, R63). An access that
is refused on both grounds is named outsideWindow: DEDUCED, safe (log entry 6). -/
def windowRefusal (offset width : Nat) : Option Refusal :=
  if offset ≥ Config.windowBytes then some .outsideWindow
  else if width ≠ 4 ∨ offset % 4 ≠ 0 then some .busError
  else none

/-- A word goes back to the host (R51). -/
def State.respond (w : Word) (s : State) : State := { s with responses := w :: s.responses }

/-- Service one event of the host, already taken off the queue (R51, R52, R53, R240). -/
def service (e : HostEvent) (s : State) : Result :=
  match e with
  | .reset => .next s.applyReset
  | .read offset width =>
    match windowRefusal offset width with
    | some r => .refused r
    | none => .next (s.respond (s.readWindow offset))
  | .write offset width value =>
    match windowRefusal offset width with
    | some r => .refused r
    | none => if offset = 0x0 then runWord value s else .next s

/-- One step: the oldest pending event is serviced; with none pending the state is constant (R59, R221):
DEDUCED, safe (log entry 3). -/
def serviceNext (s : State) : Result :=
  match s.pending with
  | [] => .next s
  | e :: rest => service e { s with pending := rest }

/-- The write of a command word to CMD (R51). -/
def commandWrite (w : Word) : HostEvent := .write 0x0 4 w

/-- The host asks for further events, after all it has asked before (R59). -/
def State.post (es : List HostEvent) (s : State) : State := { s with pending := s.pending ++ es }

/-- The offset of a bus address in the window at BASE, or `none` where the address is not the block's but the
platform's (R50, R63). BASE has no value: DESIGN CHOICE, safe (log entry 5). That no other address aliases the window:
DESIGN CHOICE, unsafe for a platform that aliases it (log entry 5). -/
def windowOffset (addr : Nat) : Option Nat :=
  if Config.base ≤ addr ∧ addr < Config.base + Config.windowBytes then some (addr - Config.base) else none

/-- A bus access made at a platform address: it reaches the block only inside the window (R63; no aliasing: DESIGN CHOICE,
log entry 5). -/
def State.busAccess (event : Nat → HostEvent) (addr : Nat) (s : State) : State :=
  match windowOffset addr with
  | some offset => s.post [event offset]
  | none => s

/-- The command word of an opcode-table row of `nbits` bits: the bits above `nbits` are 0 (R76). -/
def tableWord (nbits w : Nat) : Word := BitVec.ofNat 32 (w % 2 ^ nbits)

end Sys2Proof.Machine
end

