-- ==== Sys2Proof/Machine/Step.lean ====
section
/-! DEFINITION. The step of the machine, and where its next command word comes from (spec 10_state.md R21;
30_encoding.md R80). -/

namespace Sys2Proof.Machine

/-- One step of the block: service the host's oldest pending access (R59). Time is left out: DESIGN CHOICE, safe
(log entry 7). -/
def step (s : State) : Host.Outcome State Fault Refusal := serviceNext s

/-- `s` with the host's next access the write of the given table word to CMD: the block fetches nothing, a program is
the words the host writes (R21, R62): DEDUCED, safe (log entry 3). -/
def State.withFetchWord (s : State) (nbits w : Nat) : State :=
  { s with pending := commandWrite (tableWord nbits w) :: s.pending }

end Sys2Proof.Machine
end

