-- ==== Sys2Proof/Machine/Asm.lean ====
section
/-! DEFINITION. The pseudo-instructions and the assembler of the spec (30_encoding.md R81, R82). They are the host's
side: they make command words, and the block never sees them. -/

namespace Sys2Proof.Machine.Asm

/-- `KEY16`: MAC_CLR, then the 16 key bytes in order (R82). -/
def key16 (key : List Byte) : List Instr := .macClr :: key.map .keyLd

/-- `MSG`: one MAC_UPD per byte (R82). -/
def msg (bytes : List Byte) : List Instr := bytes.map .macUpd

/-- `MACGEN` (R82). -/
def macgen (key bytes : List Byte) : List Instr := key16 key ++ [.macInit] ++ msg bytes ++ [.macFin]

/-- `EXP8`: one EXP_LD per byte (R82). -/
def exp8 (bytes : List Byte) : List Instr := bytes.map .expLd

/-- `BMLOAD`: BM_LDB, one BM_LDC per character, BM_LDE (R82). -/
def bmload (text : List Byte) : List Instr := [.bmLdb] ++ text.map .bmLdc ++ [.bmLde]

/-- `BMWIRE`, for the wire length the host read from its BM_WLEN (R82). -/
def bmwire (wlen : Nat) : List Instr := .bmWlen :: (List.range wlen).map .bmWrh

/-- Why the assembler refuses a line (R81). -/
inductive AsmError where
  /-- The mnemonic is not in the opcode map. -/
  | unknownMnemonic
  /-- A command with an operand has none on the line. -/
  | missingOperand
  /-- A command without operand has one on the line. -/
  | extraOperand
  /-- The operand is not a decimal number, a hex number or a character literal, or its value exceeds 255. -/
  | badOperand
  deriving DecidableEq, Repr

/-- The rows of the opcode map the assembler needs: mnemonic, opcode, whether there is an operand (R72). -/
def mnemonicRows : List (String × Byte × Bool) :=
  [("NOP", 0x00, false), ("ERR_CLR", 0x01, false), ("MAC_CLR", 0x10, false), ("KEY_LD", 0x11, true)] ++
  [("MAC_INIT", 0x12, false), ("MAC_UPD", 0x13, true), ("MAC_FIN", 0x14, false), ("EXP_LD", 0x15, true)] ++
  [("MAC_CHK", 0x16, false), ("MAC_RD", 0x17, false), ("MAC_RDH", 0x18, true), ("BM_CLR", 0x20, false)] ++
  [("BM_SET", 0x21, true), ("BM_UNSET", 0x22, true), ("BM_TEST", 0x23, true), ("BM_NEXT", 0x24, true)] ++
  [("BM_RD", 0x25, true), ("BM_WLEN", 0x26, false), ("BM_WRH", 0x27, true), ("BM_LDB", 0x28, false)] ++
  [("BM_LDC", 0x29, true), ("BM_LDE", 0x2A, false)]

/-- A blank of a line: the spec names none; space and tab are taken. DESIGN CHOICE, safe (log entry 13). -/
def isBlank (c : Char) : Bool := c == ' ' || c == '\t'

/-- The line before its comment (R81). A `;` that is the character of a character literal starts no comment.
DESIGN CHOICE, safe (log entry 13). -/
def stripComment : List Char → List Char
  | [] => []
  | '\'' :: c :: '\'' :: rest => '\'' :: c :: '\'' :: stripComment rest
  | ';' :: _ => []
  | c :: rest => c :: stripComment rest

/-- Blanks off both ends. -/
def trim (cs : List Char) : List Char := ((cs.dropWhile isBlank).reverse.dropWhile isBlank).reverse

/-- The value of a digit in a base, hexadecimal digits in either case (R81). -/
def digitValue (base : Nat) (c : Char) : Option Nat :=
  match hexval (BitVec.ofNat 8 c.toNat) with
  | some v => if c.toNat < 128 ∧ v.toNat < base then some v.toNat else none
  | none => none

/-- The number a nonempty string of digits writes, or none. -/
def number (base : Nat) : List Char → Option Nat
  | [] => none
  | cs => cs.foldl (fun acc c => acc.bind fun n => (digitValue base c).map fun d => n * base + d) (some 0)

/-- The operand's text: a decimal number, a hex number after `0x`, or a one-character ASCII literal; its value lies in
0..255 (R81). -/
def operandValue (cs : List Char) : Option Byte :=
  let value :=
    match cs with
    | ['\'', c, '\''] => if c.toNat < 128 then some c.toNat else none
    | '0' :: 'x' :: digits => number 16 digits
    | _ => number 10 cs
  value.bind fun n => if n ≤ 255 then some (BitVec.ofNat 8 n) else none

/-- One line: its command word, or none for a line that is blank or a comment; refused as R81 says. The word is
`(OP << 24) | imm`. -/
def assembleLine (line : List Char) : Except AsmError (Option Word) :=
  let text := trim (stripComment line)
  let mnemonic := String.ofList ((text.takeWhile fun c => !isBlank c).map Char.toUpper)
  let operand := trim (text.dropWhile fun c => !isBlank c)
  if text.isEmpty then .ok none
  else
    match mnemonicRows.lookup mnemonic with
    | none => .error .unknownMnemonic
    | some (op, false) => if operand.isEmpty then .ok (some (formC op 0)) else .error .extraOperand
    | some (op, true) =>
      if operand.isEmpty then .error .missingOperand
      else
        match operandValue operand with
        | none => .error .badOperand
        | some imm => .ok (some (formC op imm))

end Sys2Proof.Machine.Asm
end

