-- ==== Sys2Proof/Machine/Retail.lean ====
section
/-! DEFINITION. The retail MAC as the function of a key and a message that the spec fixes, over any cipher (spec
42_mac_engine.md R130). The commands do not use it: the engine works one byte at a time, and that it computes this
function is a claim (R140). -/

namespace Sys2Proof.Machine

/-- The message with its padding: `8 - (len % 8)` zero bytes, always at least one (R130 step 2). -/
def padMessage (msg : List Byte) : List Byte := msg ++ List.replicate (8 - msg.length % 8) 0

/-- CBC under one key over the first `n` blocks of `bytes`, from the chaining value `c` (R130 step 3). -/
def cbcChain (c : Config.Cipher) (k : Block) : Nat → Block → List Byte → Block
  | 0, chain, _ => chain
  | n + 1, chain, bytes => cbcChain c k n (c.enc k (chain ^^^ packBlock (bytes.take 8))) (bytes.drop 8)

/-- `first`, the last block's ciphertext (R130 step 3). -/
def macFirst (c : Config.Cipher) (k1 : Block) (msg : List Byte) : Block :=
  cbcChain c k1 ((padMessage msg).length / 8) 0 (padMessage msg)

/-- `RMAC(key, m)`, or `none` where it fails with INVALID_KEY_LENGTH (R130). -/
def rmac (c : Config.Cipher) (key msg : List Byte) : Option Block :=
  if key.length = 16 then
    let k1 := packBlock (key.take 8)
    let k2 := packBlock (key.drop 8)
    some (c.enc k1 (c.dec k2 (macFirst c k1 msg)))
  else none

end Sys2Proof.Machine
end

