-- ==== Sys2Proof/Safety.lean ====
section
/-! DEFINITION. What counts as a safe state and run, in the terms the claims use: the invariants of spec 10_state.md R36,
the legal error codes of 60_exceptions.md R200, which registers two states share, the failed states of R205 and R206
written out, runs of the machine, and the host's sequences. -/

namespace Sys2Proof.Machine

/-- The invariants of R36, by its numbers. The bounds on the counters are in their types. -/
structure Inv (s : State) : Prop where
  /-- 1: the secondary half is empty when it is not active. -/
  secondaryEmpty : fieldBit s.bm 1 = false → ∀ i, 65 ≤ i → i ≤ 128 → fieldBit s.bm i = false
  /-- 2. -/
  bufTailZero : ∀ (j : Nat) (h : j < 8), s.bcnt.val ≤ j → s.buf[j] = 0
  /-- 3. -/
  keyTailZero : ∀ (j : Nat) (h : j < 16), s.keyCnt.val ≤ j → s.key[j] = 0
  /-- 4. -/
  expTailZero : ∀ (j : Nat) (h : j < 8), s.expCnt.val ≤ j → s.exp[j] = 0
  /-- 5. -/
  openMac : s.macAct = true → s.keyCnt.val = 16 ∧ s.macValid = false
  /-- 6. -/
  idleMac : s.macAct = false → s.cv = 0 ∧ (∀ (j : Nat) (h : j < 8), s.buf[j] = 0) ∧ s.bcnt.val = 0
  /-- 7. -/
  noMac : s.macValid = false → s.macr = 0
  /-- 8. -/
  idleLoad : s.ldBusy = false → s.ldCnt.val = 0 ∧ s.ldSr = 0
  /-- 9. -/
  openLoad : s.ldBusy = true →
    (∀ i, 4 * s.ldCnt.val + 1 ≤ i → i ≤ 128 → fieldBit s.ldSr i = false) ∧
      (16 ≤ s.ldCnt.val → fieldBit s.ldSr 1 = true)

/-- The codes the block ever writes to CERR and ERR (R200). -/
def legalCodes : List (BitVec 4) := [0x0, 0x2, 0x7, 0x8, 0x9, 0xA, 0xB, 0xC]

/-- `t` has the MAC engine's registers of `s` (R145). -/
def SameMac (s t : State) : Prop :=
  t.key = s.key ∧ t.keyCnt = s.keyCnt ∧ t.macAct = s.macAct ∧ t.cv = s.cv ∧ t.buf = s.buf ∧ t.bcnt = s.bcnt ∧
    t.macr = s.macr ∧ t.macValid = s.macValid ∧ t.exp = s.exp ∧ t.expCnt = s.expCnt

/-- `t` has the loader's registers of `s` (R26). -/
def SameLoader (s t : State) : Prop := t.ldBusy = s.ldBusy ∧ t.ldCnt = s.ldCnt ∧ t.ldSr = s.ldSr

/-- `t` has the host's side of the window of `s`. -/
def SamePort (s t : State) : Prop := t.pending = s.pending ∧ t.responses = s.responses

/-- The MAC registers of `u` in `s`. -/
def withMacOf (u s : State) : State :=
  { s with
    key := u.key, keyCnt := u.keyCnt, macAct := u.macAct, cv := u.cv, buf := u.buf, bcnt := u.bcnt,
    macr := u.macr, macValid := u.macValid, exp := u.exp, expCnt := u.expCnt }

/-- The loader registers of `u` in `s`. -/
def withLoaderOf (u s : State) : State := { s with ldBusy := u.ldBusy, ldCnt := u.ldCnt, ldSr := u.ldSr }

/-- The whole bitmap unit of `u` in `s`: BM and the loader. -/
def withBitmapUnitOf (u s : State) : State := withLoaderOf u { s with bm := u.bm }

/-- The commands of MAC_GROUP (R205), by their opcodes. -/
def isMacCommand (i : Instr) : Bool := decide (0x10 ≤ i.opcode.toNat ∧ i.opcode.toNat ≤ 0x18)

/-- The commands of LOADER_GROUP (R205), by their opcodes. -/
def isLoaderCommand (i : Instr) : Bool := decide (0x28 ≤ i.opcode.toNat ∧ i.opcode.toNat ≤ 0x2A)

/-- The bitmap unit's commands (R72), by their opcodes. -/
def isBitmapCommand (i : Instr) : Bool := decide (0x20 ≤ i.opcode.toNat ∧ i.opcode.toNat ≤ 0x2A)

/-- ERR after a command that raised the code `c` (R203). -/
def errAfter (c : BitVec 4) (s : State) : BitVec 4 := if s.err = 0 then c else s.err

/-- The state after a command of neither group failed with `c` (R205). -/
def plainFailure (c : BitVec 4) (s : State) : State := { s with result := 0, cerr := c, err := errAfter c s }

/-- The state after a MAC command failed with `c`: ABORT_MAC and the record (R205, R206). -/
def macFailure (c : BitVec 4) (s : State) : State :=
  { s with
    key := Vector.replicate 16 0, keyCnt := 0, macAct := false, cv := 0, buf := Vector.replicate 8 0, bcnt := 0,
    macr := 0, macValid := false, exp := Vector.replicate 8 0, expCnt := 0,
    result := 0, cerr := c, err := errAfter c s }

/-- The state after a loader command failed with `c`: ABORT_LD and the record (R205, R206). -/
def loaderFailure (c : BitVec 4) (s : State) : State :=
  { s with ldBusy := false, ldCnt := 0, ldSr := 0, result := 0, cerr := c, err := errAfter c s }

/-- The commands that write RESULT on success (R24). -/
def writesResult : Instr → Bool
  | .macFin => true
  | .macChk => true
  | .macRd => true
  | .macRdh _ => true
  | .bmTest _ => true
  | .bmNext _ => true
  | .bmRd _ => true
  | .bmWlen => true
  | .bmWrh _ => true
  | .nop => false
  | .errClr => false
  | .macClr => false
  | .keyLd _ => false
  | .macInit => false
  | .macUpd _ => false
  | .expLd _ => false
  | .bmClr => false
  | .bmSet _ => false
  | .bmUnset _ => false
  | .bmLdb => false
  | .bmLdc _ => false
  | .bmLde => false

/-- `n` steps of the machine. -/
def run (n : Nat) (s : State) : Result := Host.Core.run Sys2Proof.core n s

/-- The host's accesses that write the given commands to CMD, in order (R62). -/
def commandWrites (is : List Instr) : List HostEvent := is.map fun i => commandWrite (encode i)

/-- The wire form of BM: `WireChar(0) .. WireChar(WLEN-1)` (R101). -/
def wireForm (s : State) : List Byte := (List.range s.wlen).map (wireChar s.bm)

/-- The host's iteration loop over BM_NEXT, with at most `fuel` commands: the indices it yields (R106). -/
def iterateLoop : Nat → Nat → State → List Nat
  | 0, _, _ => []
  | fuel + 1, j, s =>
    match exec (.bmNext j) s with
    | .next t =>
      if t.result.toNat = 0 then []
      else if t.result.toNat = 128 then [128]
      else t.result.toNat :: iterateLoop fuel (t.result.toNat + 1) t
    | .fault _ => []
    | .refused _ => []

/-- Two states that differ at most in the MAC engine's unreadable working registers KEY, CV and BUF (R35). -/
def SameButSecrets (s t : State) : Prop := t = { s with key := t.key, cv := t.cv, buf := t.buf }

end Sys2Proof.Machine
end

