-- ==== Sys2Proof/Certificates/Slice0/Obligations.lean ====
section
/-! DEFINITION. The statements for the provers, each from the numbered rules of spec/. A statement of a command's result
has as its conclusion that `exec` answers a next state, and an equation `t = { s with ... }` in it is the command's
frame: every register not named in the update, and the host's side of the window, is unchanged. -/

open Sys2Proof Sys2Proof.Machine

/-! ### Control commands -/

/-- R180: NOP changes CERR, to 0, and nothing else. -/
def Obligations.NopResult : Prop :=
  ∀ s : State, exec .nop s = .next { s with cerr := 0 }

/-- R181: ERR_CLR sets ERR and CERR to 0 and changes nothing else; in particular it undoes no abort. -/
def Obligations.ErrClrResult : Prop :=
  ∀ s : State, exec .errClr s = .next { s with err := 0, cerr := 0 }

/-! ### MAC engine commands -/

/-- R135: MAC_CLR sets every MAC-engine register to 0 and leaves RESULT, ERR and the bitmap unit. -/
def Obligations.MacClrResult : Prop :=
  ∀ s : State, ∃ t, exec .macClr s = .next t ∧
    (∀ (j : Nat) (h : j < 16), t.key[j] = 0) ∧ (∀ (j : Nat) (h : j < 8), t.buf[j] = 0) ∧
    (∀ (j : Nat) (h : j < 8), t.exp[j] = 0) ∧
    t = { s with
      key := t.key, keyCnt := 0, macAct := false, cv := 0, buf := t.buf, bcnt := 0, macr := 0, macValid := false,
      exp := t.exp, expCnt := 0, cerr := 0 }

/-- R131: KEY_LD appends a key byte; during a computation it raises SEQUENCE_ERROR (0xB), with 16 bytes loaded
INVALID_KEY_LENGTH (0x8), each with ABORT_MAC. -/
def Obligations.KeyLdResult : Prop :=
  ∀ (b : Byte) (s : State),
    (s.macAct = true → exec (.keyLd b) s = .next (macFailure 0xB s)) ∧
    (s.macAct = false → s.keyCnt.val = 16 → exec (.keyLd b) s = .next (macFailure 0x8 s)) ∧
    (s.macAct = false → s.keyCnt.val < 16 → ∃ t, exec (.keyLd b) s = .next t ∧
      (∀ (j : Nat) (h : j < 16), t.key[j] = if j = s.keyCnt.val then b else s.key[j]) ∧
      t.keyCnt.val = s.keyCnt.val + 1 ∧ t = { s with key := t.key, keyCnt := t.keyCnt, cerr := 0 })

/-- R132: MAC_INIT opens a computation with the zero IV and discards the previous MAC; with one open it raises
SEQUENCE_ERROR (0xB), with a key of other than 16 bytes INVALID_KEY_LENGTH (0x8), each with ABORT_MAC. EXP is not
touched. -/
def Obligations.MacInitResult : Prop :=
  ∀ s : State,
    (s.macAct = true → exec .macInit s = .next (macFailure 0xB s)) ∧
    (s.macAct = false → s.keyCnt.val ≠ 16 → exec .macInit s = .next (macFailure 0x8 s)) ∧
    (s.macAct = false → s.keyCnt.val = 16 → ∃ t, exec .macInit s = .next t ∧
      (∀ (j : Nat) (h : j < 8), t.buf[j] = 0) ∧
      t = { s with macAct := true, cv := 0, buf := t.buf, bcnt := 0, macr := 0, macValid := false, cerr := 0 })

/-- R133: MAC_UPD puts a message byte into BUF; the 8th byte of a block encrypts it under K1 into CV and empties BUF; with
no computation open it raises SEQUENCE_ERROR (0xB) with ABORT_MAC. -/
def Obligations.MacUpdResult : Prop :=
  ∀ (b : Byte) (s : State),
    (s.macAct = false → exec (.macUpd b) s = .next (macFailure 0xB s)) ∧
    (s.macAct = true → s.bcnt.val < 7 → ∃ t, exec (.macUpd b) s = .next t ∧
      (∀ (j : Nat) (h : j < 8), t.buf[j] = if j = s.bcnt.val then b else s.buf[j]) ∧
      t.bcnt.val = s.bcnt.val + 1 ∧ t = { s with buf := t.buf, bcnt := t.bcnt, cerr := 0 }) ∧
    (s.macAct = true → s.bcnt.val = 7 → ∃ t, exec (.macUpd b) s = .next t ∧
      t.cv = cipher.enc s.k1 (s.cv ^^^
        packBlock [s.buf[0], s.buf[1], s.buf[2], s.buf[3], s.buf[4], s.buf[5], s.buf[6], b]) ∧
      (∀ (j : Nat) (h : j < 8), t.buf[j] = 0) ∧
      t = { s with cv := t.cv, buf := t.buf, bcnt := 0, cerr := 0 })

/-- R134: MAC_FIN takes `first = E(K1, CV xor X)`, `second = D(K2, first)` and the MAC `E(K1, second)` into MACR and
RESULT, sets MAC_VALID, and zeroizes the key, the chain and the buffer; EXP is kept. With no computation open it raises
SEQUENCE_ERROR (0xB) with ABORT_MAC. -/
def Obligations.MacFinResult : Prop :=
  ∀ s : State,
    (s.macAct = false → exec .macFin s = .next (macFailure 0xB s)) ∧
    (s.macAct = true → ∃ t first second, exec .macFin s = .next t ∧
      first = cipher.enc s.k1 (s.cv ^^^
        packBlock [s.buf[0], s.buf[1], s.buf[2], s.buf[3], s.buf[4], s.buf[5], s.buf[6], s.buf[7]]) ∧
      second = cipher.dec s.k2 first ∧ t.macr = cipher.enc s.k1 second ∧
      (∀ (j : Nat) (h : j < 16), t.key[j] = 0) ∧ (∀ (j : Nat) (h : j < 8), t.buf[j] = 0) ∧
      t = { s with
        key := t.key, keyCnt := 0, macAct := false, cv := 0, buf := t.buf, bcnt := 0, macr := t.macr,
        macValid := true, result := t.macr, cerr := 0 })

/-- R136: EXP_LD appends a byte of the expected MAC, in any state of the computation; a ninth byte raises
SEQUENCE_ERROR (0xB) with ABORT_MAC. -/
def Obligations.ExpLdResult : Prop :=
  ∀ (b : Byte) (s : State),
    (s.expCnt.val = 8 → exec (.expLd b) s = .next (macFailure 0xB s)) ∧
    (s.expCnt.val < 8 → ∃ t, exec (.expLd b) s = .next t ∧
      (∀ (j : Nat) (h : j < 8), t.exp[j] = if j = s.expCnt.val then b else s.exp[j]) ∧
      t.expCnt.val = s.expCnt.val + 1 ∧ t = { s with exp := t.exp, expCnt := t.expCnt, cerr := 0 })

/-- R137: MAC_CHK compares all 64 bits of EXP and MACR: equal, RESULT is 1 and EXP is cleared; different, it raises
MAC_VERIFICATION (0x7); with no MAC or fewer than 8 expected bytes it raises SEQUENCE_ERROR (0xB), each with
ABORT_MAC. -/
def Obligations.MacChkResult : Prop :=
  ∀ (s : State) (e : Block),
    e = packBlock [s.exp[0], s.exp[1], s.exp[2], s.exp[3], s.exp[4], s.exp[5], s.exp[6], s.exp[7]] →
    (s.macValid = false ∨ s.expCnt.val ≠ 8 → exec .macChk s = .next (macFailure 0xB s)) ∧
    (s.macValid = true → s.expCnt.val = 8 → e ≠ s.macr → exec .macChk s = .next (macFailure 0x7 s)) ∧
    (s.macValid = true → s.expCnt.val = 8 → e = s.macr → ∃ t, exec .macChk s = .next t ∧
      (∀ (j : Nat) (h : j < 8), t.exp[j] = 0) ∧
      t = { s with exp := t.exp, expCnt := 0, result := 1, cerr := 0 })

/-- R138: MAC_RDH returns the ASCII code of an uppercase hex digit, that of bits 63-4·pos to 60-4·pos of MACR; with no
MAC it raises SEQUENCE_ERROR (0xB), which outranks INDEX_OUT_OF_RANGE (0x9) for pos above 15, each with ABORT_MAC. -/
def Obligations.MacRdhResult : Prop :=
  ∀ (pos : Nat) (s : State),
    (s.macValid = false → exec (.macRdh pos) s = .next (macFailure 0xB s)) ∧
    (s.macValid = true → 15 < pos → exec (.macRdh pos) s = .next (macFailure 0x9 s)) ∧
    (s.macValid = true → pos ≤ 15 → ∃ (t : State) (digit : Nat), exec (.macRdh pos) s = .next t ∧
      digit = s.macr.toNat / 2 ^ (60 - 4 * pos) % 16 ∧
      t.result.toNat = (if digit ≤ 9 then 0x30 + digit else 0x41 + (digit - 10)) ∧
      t = { s with result := t.result, cerr := 0 })

/-- R139: MAC_RD returns MACR; with no MAC it raises SEQUENCE_ERROR (0xB) with ABORT_MAC. -/
def Obligations.MacRdResult : Prop :=
  ∀ s : State,
    (s.macValid = false → exec .macRd s = .next (macFailure 0xB s)) ∧
    (s.macValid = true → exec .macRd s = .next { s with result := s.macr, cerr := 0 })

/-! ### Bitmap commands -/

/-- R102: BM_CLR clears all 128 fields; the loader and RESULT are not touched. -/
def Obligations.BmClrResult : Prop :=
  ∀ s : State, ∃ t, exec .bmClr s = .next t ∧
    (∀ i, 1 ≤ i → i ≤ 128 → fieldBit t.bm i = false) ∧ t.sec = false ∧ t = { s with bm := t.bm, cerr := 0 }

/-- R103: BM_SET makes its field present, and bit 1 too for an index above 64; every other field, the loader and RESULT
keep their value. An index outside 1..128 raises INDEX_OUT_OF_RANGE (0x9). -/
def Obligations.BmSetResult : Prop :=
  ∀ (idx : Nat) (s : State),
    (idx = 0 ∨ 129 ≤ idx → exec (.bmSet idx) s = .next (plainFailure 0x9 s)) ∧
    (1 ≤ idx → idx ≤ 128 → ∃ t, exec (.bmSet idx) s = .next t ∧
      (∀ i, 1 ≤ i → i ≤ 128 → fieldBit t.bm i = (fieldBit s.bm i || decide (i = idx) || decide (i = 1 ∧ 64 < idx))) ∧
      t = { s with bm := t.bm, cerr := 0 })

/-- R104: BM_UNSET makes its field absent and leaves every other field, bit 1 among them; an index outside 1..128 raises
INDEX_OUT_OF_RANGE (0x9), and index 1 while a field of 65..128 is present raises SECONDARY_IN_USE (0xC). -/
def Obligations.BmUnsetResult : Prop :=
  ∀ (idx : Nat) (s : State),
    (idx = 0 ∨ 129 ≤ idx → exec (.bmUnset idx) s = .next (plainFailure 0x9 s)) ∧
    (idx = 1 → (∃ i, 65 ≤ i ∧ i ≤ 128 ∧ fieldBit s.bm i = true) →
      exec (.bmUnset idx) s = .next (plainFailure 0xC s)) ∧
    (1 ≤ idx → idx ≤ 128 → (idx = 1 → ∀ i, 65 ≤ i → i ≤ 128 → fieldBit s.bm i = false) →
      ∃ t, exec (.bmUnset idx) s = .next t ∧
        (∀ i, 1 ≤ i → i ≤ 128 → fieldBit t.bm i = (fieldBit s.bm i && !decide (i = idx))) ∧
        t = { s with bm := t.bm, cerr := 0 })

/-- R105: BM_TEST returns its field as 0 or 1; an index outside 1..128 raises INDEX_OUT_OF_RANGE (0x9). -/
def Obligations.BmTestResult : Prop :=
  ∀ (idx : Nat) (s : State),
    (idx = 0 ∨ 129 ≤ idx → exec (.bmTest idx) s = .next (plainFailure 0x9 s)) ∧
    (1 ≤ idx → idx ≤ 128 →
      exec (.bmTest idx) s = .next { s with result := if fieldBit s.bm idx then 1 else 0, cerr := 0 })

/-- R106: BM_NEXT returns the least present field `j` with `max(from, 1) ≤ j ≤ 128`, or 0 where there is none; BM is not
changed and no error is raised. -/
def Obligations.BmNextResult : Prop :=
  ∀ (start : Nat) (s : State), ∃ t, exec (.bmNext start) s = .next t ∧
    t = { s with result := t.result, cerr := 0 } ∧
    ((∀ j, max start 1 ≤ j → j ≤ 128 → fieldBit s.bm j = false) → t.result = 0) ∧
    (∀ j, max start 1 ≤ j → j ≤ 128 → fieldBit s.bm j = true →
      (∀ i, max start 1 ≤ i → i < j → fieldBit s.bm i = false) → t.result.toNat = j)

/-- R106: the host's loop over BM_NEXT yields the present indices in ascending order, and ends after at most 129
commands: more fuel than 129 changes nothing. -/
def Obligations.IterationYieldsFields : Prop :=
  ∀ (s : State) (fuel : Nat), 129 ≤ fuel →
    iterateLoop fuel 0 s = (List.range' 1 128).filter (fun i => fieldBit s.bm i)

/-- R107: BM_RD 0 returns fields 1..64 with field 1 in RESULT[63], BM_RD 1 fields 65..128 with field 65 in RESULT[63]; any
other half raises INDEX_OUT_OF_RANGE (0x9). -/
def Obligations.BmRdResult : Prop :=
  ∀ (half : Nat) (s : State),
    (2 ≤ half → exec (.bmRd half) s = .next (plainFailure 0x9 s)) ∧
    (half ≤ 1 → ∃ t, exec (.bmRd half) s = .next t ∧
      (∀ i, 1 ≤ i → i ≤ 64 → t.result.getLsbD (64 - i) = fieldBit s.bm (64 * half + i)) ∧
      t = { s with result := t.result, cerr := 0 })

/-- R108: BM_WLEN returns 16 if BM[1] is 0 and 32 if it is 1, with no error. -/
def Obligations.BmWlenResult : Prop :=
  ∀ s : State, exec .bmWlen s = .next { s with result := if fieldBit s.bm 1 then 32 else 16, cerr := 0 }

/-- R109, R101: BM_WRH returns the uppercase hex digit of fields 4·pos+1 to 4·pos+4, the first the most significant; a
position from the wire length on raises INDEX_OUT_OF_RANGE (0x9). -/
def Obligations.BmWrhResult : Prop :=
  ∀ (pos : Nat) (s : State),
    ((if fieldBit s.bm 1 then 32 else 16) ≤ pos → exec (.bmWrh pos) s = .next (plainFailure 0x9 s)) ∧
    (pos < (if fieldBit s.bm 1 then 32 else 16) → ∃ (t : State) (digit : Nat), exec (.bmWrh pos) s = .next t ∧
      digit = (fieldBit s.bm (4 * pos + 1)).toNat * 8 + (fieldBit s.bm (4 * pos + 2)).toNat * 4 +
        (fieldBit s.bm (4 * pos + 3)).toNat * 2 + (fieldBit s.bm (4 * pos + 4)).toNat ∧
      t.result.toNat = (if digit ≤ 9 then 0x30 + digit else 0x41 + (digit - 10)) ∧
      t = { s with result := t.result, cerr := 0 })

/-- R115: after a successful BM_SET of an index above 64, SEC is 1, BM_WLEN returns 32 and BM_TEST of the index
returns 1. -/
def Obligations.SecondaryActivation : Prop :=
  ∀ (idx : Nat) (s : State), 64 < idx → idx ≤ 128 → ∃ t u v, exec (.bmSet idx) s = .next t ∧ t.sec = true ∧
    exec .bmWlen t = .next u ∧ u.result = 32 ∧ exec (.bmTest idx) t = .next v ∧ v.result = 1

/-! ### The loader -/

/-- R111: BM_LDB opens a load and leaves BM; with one open it raises SEQUENCE_ERROR (0xB) and abandons it. -/
def Obligations.BmLdbResult : Prop :=
  ∀ s : State,
    (s.ldBusy = true → exec .bmLdb s = .next (loaderFailure 0xB s)) ∧
    (s.ldBusy = false → exec .bmLdb s = .next { s with ldBusy := true, ldCnt := 0, ldSr := 0, cerr := 0 })

/-- R112, with the digits of R13: BM_LDC decodes a hex digit of either case into fields 4n+1 to 4n+4 of LD_SR, `n` the
characters taken so far. The load completes with the 16th character when LD_SR[1] is 0 and with the 32nd, and then
replaces BM as a whole; otherwise it stays open. With no load open it raises SEQUENCE_ERROR (0xB), and for a character
that is no hex digit MALFORMED_BITMAP (0x2), which abandons the load and leaves BM. -/
def Obligations.BmLdcResult : Prop :=
  ∀ (c : Byte) (s : State),
    (s.ldBusy = false → exec (.bmLdc c) s = .next (loaderFailure 0xB s)) ∧
    (s.ldBusy = true →
      ¬ ((0x30 ≤ c.toNat ∧ c.toNat ≤ 0x39) ∨ (0x41 ≤ c.toNat ∧ c.toNat ≤ 0x46) ∨
        (0x61 ≤ c.toNat ∧ c.toNat ≤ 0x66)) →
      exec (.bmLdc c) s = .next (loaderFailure 0x2 s)) ∧
    (∀ v : Nat, s.ldBusy = true →
      ((0x30 ≤ c.toNat ∧ c.toNat ≤ 0x39 ∧ v = c.toNat - 0x30) ∨
        (0x41 ≤ c.toNat ∧ c.toNat ≤ 0x46 ∧ v = c.toNat - 0x41 + 10) ∨
        (0x61 ≤ c.toNat ∧ c.toNat ≤ 0x66 ∧ v = c.toNat - 0x61 + 10)) →
      ∃ (t : State) (sr : Bitmap), exec (.bmLdc c) s = .next t ∧
        (∀ i, 1 ≤ i → i ≤ 128 → fieldBit sr i =
          if 4 * s.ldCnt.val < i ∧ i ≤ 4 * s.ldCnt.val + 4 then v.testBit (4 * s.ldCnt.val + 4 - i)
          else fieldBit s.ldSr i) ∧
        (if (s.ldCnt.val + 1 = 16 ∧ fieldBit sr 1 = false) ∨ s.ldCnt.val + 1 = 32 then
          t = { s with bm := sr, ldBusy := false, ldCnt := 0, ldSr := 0, cerr := 0 }
        else t.ldCnt.val = s.ldCnt.val + 1 ∧ t = { s with ldCnt := t.ldCnt, ldSr := sr, cerr := 0 }))

/-- R113: BM_LDE with a load open raises MALFORMED_BITMAP (0x2), abandons the load and leaves BM; with none open it has
no effect but CERR 0. -/
def Obligations.BmLdeResult : Prop :=
  ∀ s : State,
    (s.ldBusy = true → exec .bmLde s = .next (loaderFailure 0x2 s)) ∧
    (s.ldBusy = false → exec .bmLde s = .next { s with cerr := 0 })

/-- R114: writing BMLOAD of BM's own wire form, with no load open, leaves BM unchanged and no load open, and every command
of the sequence succeeds. The premise on BM is invariant 1 of R36, which the rule itself rests on. -/
def Obligations.WireRoundTrip : Prop :=
  ∀ (s : State) (rest : List HostEvent),
    (fieldBit s.bm 1 = false → ∀ i, 65 ≤ i → i ≤ 128 → fieldBit s.bm i = false) → s.ldBusy = false →
    s.pending = commandWrites (Asm.bmload (wireForm s)) ++ rest →
    (∃ t, run ((wireForm s).length + 2) s = .next t ∧ t.bm = s.bm ∧ t.ldBusy = false ∧ t.err = s.err ∧
      t.pending = rest) ∧
    (∀ n, 1 ≤ n → n ≤ (wireForm s).length + 2 → ∃ u, run n s = .next u ∧ u.cerr = 0)

/-! ### Errors -/

/-- R203, R205, R206: a command either succeeds, with CERR 0 and ERR unchanged (ERR_CLR clears it), or it fails with one
of the block's codes and makes only the writes of its group's failure: the aborts, RESULT 0, CERR the code, ERR the code
when it was 0. -/
def Obligations.OutcomeRecord : Prop :=
  ∀ (i : Instr) (s t : State), exec i s = .next t →
    (t.cerr = 0 ∧ t.err = if i = .errClr then 0 else s.err) ∨
    (t.cerr ≠ 0 ∧ t.cerr ∈ legalCodes ∧
      t = if isMacCommand i then macFailure t.cerr s
        else if isLoaderCommand i then loaderFailure t.cerr s else plainFailure t.cerr s)

/-- R200: CERR and ERR always lie in 0x0, 0x2, 0x7, 0x8, 0x9, 0xA, 0xB, 0xC: no step leaves that set. -/
def Obligations.StepKeepsLegalCodes : Prop :=
  ∀ s t : State, s.err ∈ legalCodes → s.cerr ∈ legalCodes → step s = .next t →
    t.err ∈ legalCodes ∧ t.cerr ∈ legalCodes

/-- R24, R205: a command that succeeds and is none of those that produce a value leaves RESULT; a command that fails sets
it to 0. -/
def Obligations.ResultKeptOrZeroed : Prop :=
  ∀ (i : Instr) (s t : State), exec i s = .next t →
    (t.cerr = 0 → writesResult i = false → t.result = s.result) ∧ (t.cerr ≠ 0 → t.result = 0)

/-- R252, R207: after MAC_FIN and after any failing MAC command the key is gone and no computation is open, and MAC_INIT
then raises INVALID_KEY_LENGTH (0x8). -/
def Obligations.KeyLastsOneMac : Prop :=
  ∀ (i : Instr) (s t : State), isMacCommand i = true → exec i s = .next t → i = .macFin ∨ t.cerr ≠ 0 →
    (∀ (j : Nat) (h : j < 16), t.key[j] = 0) ∧ t.keyCnt = 0 ∧ t.macAct = false ∧
      exec .macInit t = .next (macFailure 0x8 t)

/-- R145: a MAC command does not read or write the bitmap unit, and a bitmap command does not read or write the MAC
engine: from any contents of the other unit the command does the same, and leaves them. -/
def Obligations.UnitsIndependent : Prop :=
  ∀ (i : Instr) (s t u : State), exec i s = .next t →
    (isMacCommand i = true →
      t.bm = s.bm ∧ SameLoader s t ∧ exec i (withBitmapUnitOf u s) = .next (withBitmapUnitOf u t)) ∧
    (isBitmapCommand i = true → SameMac s t ∧ exec i (withMacOf u s) = .next (withMacOf u t))

/-- R254: BM_CLR to BM_WRH act on BM exactly as when the loader is idle: they do not read or write the loader, whatever it
holds, and an open load goes on. -/
def Obligations.BitmapCommandsDuringLoad : Prop :=
  ∀ (i : Instr) (s t u : State), isBitmapCommand i = true → isLoaderCommand i = false → exec i s = .next t →
    SameLoader s t ∧ exec i (withLoaderOf u s) = .next (withLoaderOf u t)

/-- R35, R183: KEY, CV and BUF cannot be read: from two states that differ only in them, a step that does not run MAC_FIN
goes to two states that differ only in them, so STATUS, RESULT and every word returned to the host are equal. -/
def Obligations.SecretsUnreadable : Prop :=
  ∀ (s t s' : State), SameButSecrets s t →
    (∀ rest, s.pending ≠ commandWrite (encode .macFin) :: rest) → step s = .next s' →
    ∃ t', step t = .next t' ∧ SameButSecrets s' t' ∧ t'.status = s'.status ∧ t'.result = s'.result ∧
      t'.responses = s'.responses

/-! ### Decoding -/

/-- R70, R72: every well-formed command's word decodes to it, with its operand. -/
def Obligations.DecodeEncode : Prop :=
  ∀ i : Instr, i.wellFormed = true → decode (encode i) = .ok i

/-- R72, R75: each legal word has one meaning: a word that decodes is the word of its command, and that command is well
formed. -/
def Obligations.EncodeDecode : Prop :=
  ∀ (w : Word) (i : Instr), decode w = .ok i → encode i = w ∧ i.wellFormed = true

/-- R74: the legal words are those whose opcode is in the map, whose RSV is 0 and whose IMM8 is 0 where the opcode takes
no operand; a write of any other word to CMD raises ILLEGAL_COMMAND (0xA), which changes nothing but CERR, ERR and
RESULT. -/
def Obligations.LegalWords : Prop :=
  ∀ w : Word, ((∃ i, decode w = .ok i) ↔ Legal w) ∧
    (¬ Legal w → ∀ (s : State) (rest : List HostEvent), s.pending = commandWrite w :: rest →
      step s = .next (plainFailure 0xA { s with pending := rest }))

/-- R72: words written out from the opcode map decode to their commands, one or more of each family. -/
def Obligations.DecodedWords : Prop :=
  (decode 0x00000000).toOption = some .nop ∧ (decode 0x01000000).toOption = some .errClr ∧
    (decode 0x110000AB).toOption = some (.keyLd 0xAB) ∧ (decode 0x13000031).toOption = some (.macUpd 0x31) ∧
    (decode 0x14000000).toOption = some .macFin ∧ (decode 0x1800000F).toOption = some (.macRdh 15) ∧
    (decode 0x21000041).toOption = some (.bmSet 65) ∧ (decode 0x240000FF).toOption = some (.bmNext 255) ∧
    (decode 0x28000000).toOption = some .bmLdb ∧ (decode 0x29000046).toOption = some (.bmLdc 0x46) ∧
    (decode 0x14800000).toOption = none ∧ (decode 0x20000001).toOption = none ∧ (decode 0x19000000).toOption = none

/-- R81: the assembler turns a command's mnemonic, with its operand in hex where it has one, into the command's word
`(OP << 24) | imm`, for every command. -/
def Obligations.AssembledOperands : Prop :=
  ∀ row ∈ Asm.mnemonicRows, ∀ imm : Byte,
    let hex : List Char := ['0', 'x', Char.ofNat (hexchar (imm.extractLsb' 4 4)).toNat,
      Char.ofNat (hexchar (imm.extractLsb' 0 4)).toNat]
    (row.2.2 = true →
      Asm.assembleLine (row.1.toList ++ ' ' :: hex) = .ok (some (row.2.1.setWidth 32 <<< 24 ||| imm.setWidth 32)) ∧
        Asm.assembleLine row.1.toList = .error .missingOperand) ∧
    (row.2.2 = false →
      Asm.assembleLine row.1.toList = .ok (some (row.2.1.setWidth 32 <<< 24)) ∧
        Asm.assembleLine (row.1.toList ++ ' ' :: hex) = .error .extraOperand)

/-! ### The window and the step -/

/-- A step runs the decoded command: with a write to CMD the oldest pending access and its word the word of `i`, the step
is `exec i` on the state without that access (R80). -/
def Obligations.StepRunsDecoded : Prop :=
  ∀ (s : State) (w : Word) (rest : List HostEvent) (i : Instr),
    s.pending = commandWrite w :: rest → decode w = .ok i → step s = exec i { s with pending := rest }

/-- R80: every word has a step, none stops the machine, and the step takes one access off the queue and returns nothing to
the host. -/
def Obligations.StepTotalOnCommands : Prop :=
  ∀ (s : State) (w : Word) (rest : List HostEvent), s.pending = commandWrite w :: rest →
    ∃ t, step s = .next t ∧ t.pending = rest ∧ t.responses = s.responses

/-- R51, R53: a read returns 0 for CMD, STATUS, or a half of RESULT, and changes no register; a write to one of the three
read-only registers has no effect. -/
def Obligations.WindowAccesses : Prop :=
  ∀ (s : State) (rest : List HostEvent),
    (∀ a v, s.pending = .read a 4 :: rest →
      (a = 0x0 ∧ v = 0) ∨ (a = 0x4 ∧ v = s.status) ∨ (a = 0x8 ∧ v.toNat = s.result.toNat / 2 ^ 32) ∨
        (a = 0xC ∧ v.toNat = s.result.toNat % 2 ^ 32) →
      step s = .next { s with pending := rest, responses := v :: s.responses }) ∧
    (∀ a w, s.pending = .write a 4 w :: rest → a = 0x4 ∨ a = 0x8 ∨ a = 0xC →
      step s = .next { s with pending := rest })

/-- R52, R63, R210: a step stops only by a refusal, and exactly when the oldest pending access is outside the window or is
not an aligned 32-bit access. Two clauses are the model's, not the spec's: an access refused on both grounds is named
outsideWindow (log entry 6, DEDUCED), and a step with no access pending is idle, so it is not refused (log entry 3,
DEDUCED). -/
def Obligations.StepRefusesExactly : Prop :=
  ∀ s : State, (∀ f, step s ≠ .fault f) ∧
    ∀ r, step s = .refused r ↔
      ∃ (a n : Nat) (rest : List HostEvent),
        (s.pending = .read a n :: rest ∨ ∃ w, s.pending = .write a n w :: rest) ∧
          ((16 ≤ a ∧ r = .outsideWindow) ∨ (a < 16 ∧ (n ≠ 4 ∨ a % 4 ≠ 0) ∧ r = .busError))

/-- R50, R63: the addresses BASE to BASE+0xF are the window's offsets 0x0 to 0xF, whatever BASE is. That an access at any
other address does not reach the block is the model's choice (log entry 5, DESIGN CHOICE): R63 leaves it to the platform
whether other addresses alias the window. -/
def Obligations.WindowDecode : Prop :=
  (∀ a, a < 16 → windowOffset (Config.base + a) = some a) ∧
    (∀ (addr : Nat) (event : Nat → HostEvent) (s : State), addr < Config.base ∨ Config.base + 16 ≤ addr →
      s.busAccess event addr = s)

/-- R23: each STATUS field is the slice of the word the table gives it. -/
def Obligations.StatusFields : Prop :=
  ∀ s : State,
    s.status.extractLsb' 0 4 = s.err ∧ s.status.extractLsb' 4 4 = s.cerr ∧ s.status.getLsbD 8 = s.macAct ∧
      s.status.getLsbD 9 = s.macValid ∧ s.status.getLsbD 10 = s.ldBusy ∧ s.status.getLsbD 11 = fieldBit s.bm 1 ∧
      (s.status.extractLsb' 12 5).toNat = s.keyCnt.val ∧ (s.status.extractLsb' 17 3).toNat = s.bcnt.val ∧
      (s.status.extractLsb' 20 4).toNat = s.expCnt.val ∧ (s.status.extractLsb' 24 5).toNat = s.ldCnt.val ∧
      s.status.extractLsb' 29 3 = 0

/-! ### Reset and invariants -/

/-- R240: the reset values, and STATUS and CMD reading 0 after reset. -/
def Obligations.ResetValues : Prop :=
  ∀ s : State, s = State.reset →
    s.bm = 0 ∧ s.ldBusy = false ∧ s.ldCnt = 0 ∧ s.ldSr = 0 ∧ (∀ (j : Nat) (h : j < 16), s.key[j] = 0) ∧
      s.keyCnt = 0 ∧ s.macAct = false ∧ s.cv = 0 ∧ (∀ (j : Nat) (h : j < 8), s.buf[j] = 0) ∧ s.bcnt = 0 ∧
      s.macr = 0 ∧ s.macValid = false ∧ (∀ (j : Nat) (h : j < 8), s.exp[j] = 0) ∧ s.expCnt = 0 ∧ s.result = 0 ∧
      s.err = 0 ∧ s.cerr = 0 ∧ s.status = 0 ∧ s.readWindow 0x0 = 0

/-- R240: the platform's reset, from any state, leaves every register at its reset value, whether a command the host
wrote before it took effect or not. The queue and the words read are the model's own fields (log entries 1, 2, 9). -/
def Obligations.ResetEvent : Prop :=
  ∀ (s : State) (w : Word) (rest : List HostEvent),
    run 1 { s with pending := .reset :: rest } =
        .next { State.reset with pending := rest, responses := s.responses } ∧
      run 2 { s with pending := commandWrite w :: .reset :: rest } =
        .next { State.reset with pending := rest, responses := s.responses }

/-- R36, R240: the reset state satisfies every invariant, and its error codes are legal. -/
def Obligations.ResetInvariant : Prop :=
  Inv State.reset ∧ State.reset.err ∈ legalCodes ∧ State.reset.cerr ∈ legalCodes

/-- R36: every step keeps the invariants, from any state that has them. -/
def Obligations.StepKeepsInvariant : Prop :=
  ∀ s t : State, Inv s → step s = .next t → Inv t

/-- R242: the five commands MAC_CLR, BM_CLR, BM_LDB, BM_LDE, ERR_CLR bring every register to its reset value, from any
state. -/
def Obligations.SoftReset : Prop :=
  ∀ (s : State) (rest : List HostEvent),
    s.pending = commandWrites [.macClr, .bmClr, .bmLdb, .bmLde, .errClr] ++ rest →
    run 5 s = .next { State.reset with pending := rest, responses := s.responses }

/-! ### The retail MAC -/

/-- R140: from any state with no computation open and no key byte loaded, 16 KEY_LD, MAC_INIT, one MAC_UPD per message byte
and MAC_FIN raise no error and leave RMAC of the key and the message in MACR and RESULT, with MAC_VALID set and the key
gone; after `j` message bytes the engine holds the chain of the full blocks and the rest of the message in BUF. -/
def Obligations.MacSequence : Prop :=
  ∀ (key msg : List Byte) (s : State) (rest : List HostEvent),
    key.length = 16 → s.macAct = false → s.keyCnt = 0 →
    s.pending = commandWrites (key.map .keyLd ++ [.macInit] ++ Asm.msg msg ++ [.macFin]) ++ rest →
    (∃ t mac, run (msg.length + 18) s = .next t ∧ rmac cipher key msg = some mac ∧ t.macr = mac ∧ t.result = mac ∧
      t.macValid = true ∧ t.macAct = false ∧ t.keyCnt = 0 ∧ (∀ (j : Nat) (h : j < 16), t.key[j] = 0) ∧
      t.err = s.err ∧ t.pending = rest) ∧
    (∀ n, 1 ≤ n → n ≤ msg.length + 18 → ∃ u, run n s = .next u ∧ u.cerr = 0) ∧
    (∀ j, j ≤ msg.length → ∃ u, run (17 + j) s = .next u ∧ u.bcnt.val = j % 8 ∧
      u.buf.toList = (msg.take j).drop (8 * (j / 8)) ++ List.replicate (8 - j % 8) 0 ∧
      u.cv = cbcChain cipher (packBlock (key.take 8)) (j / 8) 0 msg)

/-- R144: after MACGEN and EXP8, from any state, MAC_CHK succeeds with RESULT 1 exactly when RMAC of the key and the body
is the expected MAC; otherwise it raises MAC_VERIFICATION (0x7), recorded in ERR when ERR was 0, and the MAC is gone. -/
def Obligations.VerificationFlow : Prop :=
  ∀ (key body expected : List Byte) (s : State) (rest : List HostEvent),
    key.length = 16 → expected.length = 8 →
    s.pending = commandWrites (Asm.macgen key body ++ Asm.exp8 expected ++ [.macChk]) ++ rest →
    ∃ t, run (body.length + 28) s = .next t ∧ t.pending = rest ∧
      (rmac cipher key body = some (packBlock expected) → t.result = 1 ∧ t.cerr = 0 ∧ t.err = s.err) ∧
      (rmac cipher key body ≠ some (packBlock expected) →
        t.result = 0 ∧ t.cerr = 0x7 ∧ t.err = (if s.err = 0 then 0x7 else s.err) ∧ t.macValid = false ∧ t.macr = 0)

/-- R141: for a message whose length is no multiple of 8, zero bytes that do not fill the final block leave its MAC, and
the empty message and the message of one zero byte have the same MAC; for any cipher. -/
def Obligations.PaddingInvisible : Prop :=
  ∀ (c : Config.Cipher) (key msg : List Byte) (k : Nat),
    (1 ≤ msg.length % 8 → msg.length % 8 + k ≤ 7 → rmac c key (msg ++ List.replicate k 0) = rmac c key msg) ∧
      rmac c key [] = rmac c key [0]

/-- R142: when K1 = K2 the MAC is `first`, the plain CBC-MAC under K1. -/
def Obligations.EqualHalves : Prop :=
  ∀ (half msg : List Byte), half.length = 8 →
    rmac cipher (half ++ half) msg = some (macFirst cipher (packBlock half) msg)

/-! ### The cipher -/

/-- R160, R172: decryption undoes encryption and encryption undoes decryption, for every key and block. -/
def Obligations.CipherLawful : Prop := cipher.Lawful

/-- R173: two keys that differ only in the low bit of each byte give the same E and D. -/
def Obligations.ParityIgnored : Prop :=
  ∀ k k' b : Block, k &&& 0xFEFEFEFEFEFEFEFE = k' &&& 0xFEFEFEFEFEFEFEFE →
    cipher.enc k b = cipher.enc k' b ∧ cipher.dec k b = cipher.dec k' b

/-- R175: the vectors of E, their decryptions, and the first and last subkey of the first row's key. -/
def Obligations.CipherVectors : Prop :=
  cipher.enc 0x133457799BBCDFF1 0x0123456789ABCDEF = 0x85E813540F0AB405 ∧
    cipher.enc 0x0123456789ABCDEF 0x0000000000000000 = 0xD5D44FF720683D0D ∧
    cipher.enc 0x0123456789ABCDEF 0x3132333435363738 = 0xBD0B1A49070AC376 ∧
    cipher.dec 0x133457799BBCDFF1 0x85E813540F0AB405 = 0x0123456789ABCDEF ∧
    cipher.dec 0x0123456789ABCDEF 0xD5D44FF720683D0D = 0x0000000000000000 ∧
    cipher.dec 0x0123456789ABCDEF 0xBD0B1A49070AC376 = 0x3132333435363738 ∧
    (Des.subkeys 0x133457799BBCDFF1).head? = some 0x1B02EFFC7072 ∧
    (Des.subkeys 0x133457799BBCDFF1).getLast? = some 0xCB3D8B0E17F5
end

