-- ==== Sys2Proof/Laws/Bits.lean ====
section
/-! SUPPORT. What the bitmap's field operations, the halves, the hexadecimal maps and the byte packing do, said once per
operation (spec 00_scope.md R9, R10, R13; 41_bitmap.md R100, R101, R106, R107, R112). -/

namespace Sys2Proof.Machine

theorem validIdx_iff (i : Nat) : validIdx i = true ↔ 1 ≤ i ∧ i ≤ 128 := by
  simp only [validIdx, Bool.and_eq_true, decide_eq_true_eq]
  exact Iff.rfl

/-- Writing a field writes that field and no other (R12). -/
theorem fieldBit_putField (v : Bitmap) (i j : Nat) (b : Bool) (hi : 1 ≤ i ∧ i ≤ 128) (hj : 1 ≤ j ∧ j ≤ 128) :
    fieldBit (putField v i b) j = if j = i then b else fieldBit v j := by
  have hlt : 128 - j < 128 := by omega
  cases b <;> by_cases h : j = i <;>
    simp [putField, fieldBit, Config.fields, BitVec.getLsbD_or, BitVec.getLsbD_and, BitVec.getLsbD_not,
      BitVec.getLsbD_twoPow, h, hlt]
  all_goals omega

@[simp] theorem fieldBit_zero (i : Nat) : fieldBit 0#128 i = false := by simp [fieldBit]

/-- Two bitmaps with the same fields are equal (R9). -/
theorem bitmap_ext {v w : Bitmap} (h : ∀ i, 1 ≤ i → i ≤ 128 → fieldBit v i = fieldBit w i) : v = w := by
  apply BitVec.eq_of_getLsbD_eq
  intro k hk
  have := h (128 - k) (by omega) (by omega)
  simpa [fieldBit, Config.fields, show 128 - (128 - k) = k by omega] using this

/-- The primary half holds fields 1..64, field 1 the most significant (R107). -/
theorem primaryHalf_bit (v : Bitmap) (i : Nat) (hi : 1 ≤ i ∧ i ≤ 64) :
    (primaryHalf v).getLsbD (64 - i) = fieldBit v i := by
  have h : 64 - i < 64 := by omega
  simp [primaryHalf, fieldBit, Config.fields, h, show 64 + (64 - i) = 128 - i by omega]

/-- The secondary half holds fields 65..128, field 65 the most significant (R107). -/
theorem secondaryHalf_bit (v : Bitmap) (i : Nat) (hi : 1 ≤ i ∧ i ≤ 64) :
    (secondaryHalf v).getLsbD (64 - i) = fieldBit v (64 + i) := by
  have h : 64 - i < 64 := by omega
  simp [secondaryHalf, fieldBit, Config.fields, h, show 128 - (64 + i) = 64 - i by omega]

/-- The guard of BM_UNSET 1 is off exactly when fields 65..128 are absent (R104). -/
theorem secondaryInUse_eq_false_iff (v : Bitmap) :
    secondaryInUse v = false ↔ ∀ i, 65 ≤ i → i ≤ 128 → fieldBit v i = false := by
  simp only [secondaryInUse, bne_eq_false_iff_eq]
  constructor
  · intro h i h1 h2
    have := secondaryHalf_bit v (i - 64) (by omega)
    rw [h, show 64 + (i - 64) = i by omega] at this
    simpa using this.symm
  · intro h
    apply BitVec.eq_of_getLsbD_eq
    intro k hk
    have := secondaryHalf_bit v (64 - k) (by omega)
    rw [show 64 - (64 - k) = k by omega, h _ (by omega) (by omega)] at this
    simpa using this

/-- What a BM_NEXT search finds: the least present field of the range (R106). -/
theorem nextField_eq_some_iff (v : Bitmap) (start j : Nat) :
    nextField v start = some j ↔
      fieldBit v j = true ∧ start ≤ j ∧ j ≤ 128 ∧ ∀ i, start ≤ i → i < j → fieldBit v i = false := by
  simp only [nextField, Config.fields, List.find?_range'_eq_some]
  constructor
  · rintro ⟨h1, h2, h3⟩
    simp only [List.mem_range'_1] at h2
    exact ⟨h1, h2.1, by omega, fun i a b => by simpa using h3 i a b⟩
  · rintro ⟨h1, h2, h3, h4⟩
    refine ⟨h1, ?_, fun i a b => by simpa using h4 i a b⟩
    simp only [List.mem_range'_1]
    omega

/-- A BM_NEXT search finds nothing exactly when no field of the range is present (R106). -/
theorem nextField_eq_none_iff (v : Bitmap) (start : Nat) :
    nextField v start = none ↔ ∀ i, start ≤ i → i ≤ 128 → fieldBit v i = false := by
  simp only [nextField, Config.fields, List.find?_eq_none, List.mem_range'_1]
  constructor
  · intro h i a b
    simpa using h i ⟨a, by omega⟩
  · intro h i a
    simpa using h i a.1 (by omega)

/-- Taking a character writes its four fields and no other (R112). -/
theorem fieldBit_putNibble (sr : Bitmap) (n : Nat) (v : BitVec 4) (j : Nat) (hn : n < 32) (hj : 1 ≤ j ∧ j ≤ 128) :
    fieldBit (putNibble sr n v) j =
      if 4 * n < j ∧ j ≤ 4 * n + 4 then v.getLsbD (4 * n + 4 - j) else fieldBit sr j := by
  simp only [putNibble]
  rw [fieldBit_putField _ _ _ _ (by omega) hj, fieldBit_putField _ _ _ _ (by omega) hj,
    fieldBit_putField _ _ _ _ (by omega) hj, fieldBit_putField _ _ _ _ (by omega) hj]
  by_cases h4 : j = 4 * n + 4
  · simp [h4]
  by_cases h3 : j = 4 * n + 3
  · simp [h3]
  by_cases h2 : j = 4 * n + 2
  · simp [h2]
  by_cases h1 : j = 4 * n + 1
  · simp [h1]
  · rw [if_neg h4, if_neg h3, if_neg h2, if_neg h1, if_neg (by omega)]

/-- Reading back the character written gives its digit (R13). -/
theorem hexval_hexchar (v : BitVec 4) : hexval (hexchar v) = some v := by
  revert v; decide

/-- `hexchar` gives an uppercase digit's code (R13). -/
theorem hexchar_toNat (v : BitVec 4) :
    (hexchar v).toNat = if v.toNat ≤ 9 then 0x30 + v.toNat else 0x41 + (v.toNat - 10) := by
  revert v; decide

/-- Packing eight bytes joins them, the first the most significant (R10). -/
theorem packBlock_eight (b0 b1 b2 b3 b4 b5 b6 b7 : Byte) :
    packBlock [b0, b1, b2, b3, b4, b5, b6, b7] = b0 ++ b1 ++ b2 ++ b3 ++ b4 ++ b5 ++ b6 ++ b7 := by
  apply BitVec.eq_of_getLsbD_eq
  intro i hi
  simp only [packBlock, List.foldl_cons, List.foldl_nil, BitVec.getLsbD_or, BitVec.getLsbD_shiftLeft,
    BitVec.getLsbD_setWidth, BitVec.getLsbD_append, hi]
  interval_cases i <;> simp

end Sys2Proof.Machine
end

