-- ==== Sys2Proof/Laws/Decode.lean ====
section
/-! SUPPORT. The fields of a command's word, the two parts of the decoder, and that the opcode lists are the map (spec
30_encoding.md R70 to R74). -/

namespace Sys2Proof

/-- The bits of a word of format C (R70). -/
theorem getLsbD_formC (op imm : Byte) (k : Nat) (hk : k < 32) :
    (formC op imm).getLsbD k =
      if k < 8 then imm.getLsbD k else if k < 24 then false else op.getLsbD (k - 24) := by
  by_cases h8 : k < 8
  · simp [formC, h8, hk, show k < 24 by omega]
  · by_cases h24 : k < 24
    · simp [formC, h8, hk, h24, show 8 ≤ k by omega]
    · simp [formC, h8, hk, h24, show 8 ≤ k by omega]

@[simp] theorem opField_formC (op imm : Byte) : opField (formC op imm) = op := by
  apply BitVec.eq_of_getLsbD_eq
  intro k hk
  rw [opField, BitVec.getLsbD_extractLsb', getLsbD_formC _ _ _ (by omega)]
  simp [hk, show ¬ 24 + k < 8 by omega, show ¬ 24 + k < 24 by omega]

@[simp] theorem rsvField_formC (op imm : Byte) : rsvField (formC op imm) = 0 := by
  apply BitVec.eq_of_getLsbD_eq
  intro k hk
  rw [rsvField, BitVec.getLsbD_extractLsb', getLsbD_formC _ _ _ (by omega)]
  simp [show 8 + k < 24 by omega]

@[simp] theorem immField_formC (op imm : Byte) : immField (formC op imm) = imm := by
  apply BitVec.eq_of_getLsbD_eq
  intro k hk
  rw [immField, BitVec.getLsbD_extractLsb', getLsbD_formC _ _ _ (by omega)]
  simp [hk]

@[simp] theorem opField_encode (i : Instr) : opField (encode i) = i.opcode := opField_formC _ _

@[simp] theorem rsvField_encode (i : Instr) : rsvField (encode i) = 0 := rsvField_formC _ _

@[simp] theorem immField_encode (i : Instr) : immField (encode i) = i.operand := immField_formC _ _

/-- A word with a zero RSV is the word of its opcode and its operand (R70). -/
theorem formC_fields (w : Word) (h : rsvField w = 0) : formC (opField w) (immField w) = w := by
  apply BitVec.eq_of_getLsbD_eq
  intro k hk
  rw [getLsbD_formC _ _ _ hk]
  by_cases h8 : k < 8
  · simp [h8, immField]
  · by_cases h24 : k < 24
    · have := congrArg (fun v => v.getLsbD (k - 8)) h
      simp only [rsvField, BitVec.getLsbD_extractLsb', show k - 8 < 16 by omega, show 8 + (k - 8) = k by omega] at this
      simpa [h8, h24] using this.symm
    · simp [h8, h24, opField, show k - 24 < 8 by omega, show 24 + (k - 24) = k by omega]

/-- A word decodes exactly when its opcode and operand do and RSV is zero (R74). -/
theorem decode_eq_ok_iff (w : Word) (i : Instr) :
    decode w = .ok i ↔ decodeOp (opField w) (immField w) = .ok i ∧ rsvField w = 0 := by
  simp only [decode]
  split
  · simp_all
  · by_cases h : rsvField w = 0 <;> simp_all

/-- A command without operand decodes exactly from a zero operand (R71). -/
theorem noOperand_eq_ok_iff (imm : Byte) (i j : Instr) : noOperand imm i = .ok j ↔ imm = 0 ∧ i = j := by
  simp only [noOperand]
  split <;> simp_all

/-- The opcode of a command and whether it takes an operand agree with the opcode lists (R72). -/
theorem opcode_mem (i : Instr) : i.opcode ∈ if i.hasOperand then operandOpcodes else bareOpcodes := by
  cases i <;> simp [Instr.opcode, Instr.hasOperand, operandOpcodes, bareOpcodes]

/-- A command without operand has a zero IMM8 (R71). -/
theorem operand_of_bare (i : Instr) (h : i.hasOperand = false) : i.operand = 0 := by
  cases i <;> first | rfl | exact absurd h (by simp [Instr.hasOperand])

end Sys2Proof
end

