-- ==== Sys2Proof/Laws/Des.lean ====
section
/-! SUPPORT. What the cipher's table permutation and one round do, said once (spec 43_block_cipher.md R160, R171). -/

namespace Sys2Proof.Machine.Des

/-- The permutation's loop from a partial result: the bits of the rest of the table below, the partial result above. -/
theorem getLsbD_permLoop {n l : Nat} (v : BitVec n) (t : List Nat) (r : BitVec l) (k : Nat) (hk : k < l) :
    (t.foldl (fun (r : BitVec l) (j : Nat) => r <<< 1 ||| (BitVec.ofBool (v.getLsbD (n - j))).setWidth l) r).getLsbD k =
      if k < t.length then v.getLsbD (n - t.getD (t.length - 1 - k) 0) else r.getLsbD (k - t.length) := by
  induction t generalizing r with
  | nil => simp
  | cons j rest ih =>
    rw [List.foldl_cons, ih]
    by_cases h1 : k < rest.length
    · have : rest.length - k = rest.length - 1 - k + 1 := by omega
      simp [h1, show k < rest.length + 1 by omega, this]
    · by_cases h2 : k = rest.length
      · subst h2
        simp [show 0 < l by omega]
      · simp [h1, show ¬ k < rest.length + 1 by omega, BitVec.getLsbD_ofBool,
          show k - rest.length ≠ 0 by omega, show k - rest.length < l by omega,
          show k - (rest.length + 1) = k - rest.length - 1 by omega]
        rfl

/-- Output bit `j` of `Perm(T, v, N)` is input bit `T[j]`, both counted from the most significant end (R160); here the
output bit `k` from the least significant end, of a table as long as the output. -/
theorem getLsbD_perm {n : Nat} (l : Nat) (t : List Nat) (v : BitVec n) (k : Nat) (hl : t.length = l) (hk : k < l) :
    (perm l t v).getLsbD k = v.getLsbD (n - t.getD (l - 1 - k) 0) := by
  subst hl
  rw [perm, getLsbD_permLoop v t 0 k hk, if_pos hk]

/-- A round is undone by a round with the same key on the swapped halves (R171, R172). -/
theorem round_swap_round (l r : BitVec 32) (k : BitVec 48) :
    round ((round (l, r) k).2, (round (l, r) k).1) k = (r, l) := by
  simp only [round, BitVec.xor_assoc, BitVec.xor_self, BitVec.xor_zero]

end Sys2Proof.Machine.Des
end

