-- ==== Sys2Proof/Laws/State.lean ====
section
/-! SUPPORT. What each shared update of the state does to each field, true by definition, so that no later proof unfolds
an update (spec 10_state.md R37; 60_exceptions.md R205, R206). -/

namespace Sys2Proof.Machine

@[simp] theorem State.abortMac_bm (s : State) : (s.abortMac).bm = s.bm := rfl
@[simp] theorem State.abortMac_ldBusy (s : State) : (s.abortMac).ldBusy = s.ldBusy := rfl
@[simp] theorem State.abortMac_ldCnt (s : State) : (s.abortMac).ldCnt = s.ldCnt := rfl
@[simp] theorem State.abortMac_ldSr (s : State) : (s.abortMac).ldSr = s.ldSr := rfl
@[simp] theorem State.abortMac_key (s : State) : (s.abortMac).key = Vector.replicate 16 0 := rfl
@[simp] theorem State.abortMac_keyCnt (s : State) : (s.abortMac).keyCnt = 0 := rfl
@[simp] theorem State.abortMac_macAct (s : State) : (s.abortMac).macAct = false := rfl
@[simp] theorem State.abortMac_cv (s : State) : (s.abortMac).cv = 0 := rfl
@[simp] theorem State.abortMac_buf (s : State) : (s.abortMac).buf = Vector.replicate 8 0 := rfl
@[simp] theorem State.abortMac_bcnt (s : State) : (s.abortMac).bcnt = 0 := rfl
@[simp] theorem State.abortMac_macr (s : State) : (s.abortMac).macr = 0 := rfl
@[simp] theorem State.abortMac_macValid (s : State) : (s.abortMac).macValid = false := rfl
@[simp] theorem State.abortMac_exp (s : State) : (s.abortMac).exp = Vector.replicate 8 0 := rfl
@[simp] theorem State.abortMac_expCnt (s : State) : (s.abortMac).expCnt = 0 := rfl
@[simp] theorem State.abortMac_result (s : State) : (s.abortMac).result = s.result := rfl
@[simp] theorem State.abortMac_err (s : State) : (s.abortMac).err = s.err := rfl
@[simp] theorem State.abortMac_cerr (s : State) : (s.abortMac).cerr = s.cerr := rfl
@[simp] theorem State.abortMac_pending (s : State) : (s.abortMac).pending = s.pending := rfl
@[simp] theorem State.abortMac_responses (s : State) : (s.abortMac).responses = s.responses := rfl

@[simp] theorem State.abortLd_bm (s : State) : (s.abortLd).bm = s.bm := rfl
@[simp] theorem State.abortLd_ldBusy (s : State) : (s.abortLd).ldBusy = false := rfl
@[simp] theorem State.abortLd_ldCnt (s : State) : (s.abortLd).ldCnt = 0 := rfl
@[simp] theorem State.abortLd_ldSr (s : State) : (s.abortLd).ldSr = 0 := rfl
@[simp] theorem State.abortLd_key (s : State) : (s.abortLd).key = s.key := rfl
@[simp] theorem State.abortLd_keyCnt (s : State) : (s.abortLd).keyCnt = s.keyCnt := rfl
@[simp] theorem State.abortLd_macAct (s : State) : (s.abortLd).macAct = s.macAct := rfl
@[simp] theorem State.abortLd_cv (s : State) : (s.abortLd).cv = s.cv := rfl
@[simp] theorem State.abortLd_buf (s : State) : (s.abortLd).buf = s.buf := rfl
@[simp] theorem State.abortLd_bcnt (s : State) : (s.abortLd).bcnt = s.bcnt := rfl
@[simp] theorem State.abortLd_macr (s : State) : (s.abortLd).macr = s.macr := rfl
@[simp] theorem State.abortLd_macValid (s : State) : (s.abortLd).macValid = s.macValid := rfl
@[simp] theorem State.abortLd_exp (s : State) : (s.abortLd).exp = s.exp := rfl
@[simp] theorem State.abortLd_expCnt (s : State) : (s.abortLd).expCnt = s.expCnt := rfl
@[simp] theorem State.abortLd_result (s : State) : (s.abortLd).result = s.result := rfl
@[simp] theorem State.abortLd_err (s : State) : (s.abortLd).err = s.err := rfl
@[simp] theorem State.abortLd_cerr (s : State) : (s.abortLd).cerr = s.cerr := rfl
@[simp] theorem State.abortLd_pending (s : State) : (s.abortLd).pending = s.pending := rfl
@[simp] theorem State.abortLd_responses (s : State) : (s.abortLd).responses = s.responses := rfl

@[simp] theorem State.recordError_bm (c : ErrCode) (s : State) : (s.recordError c).bm = s.bm := rfl
@[simp] theorem State.recordError_ldBusy (c : ErrCode) (s : State) : (s.recordError c).ldBusy = s.ldBusy := rfl
@[simp] theorem State.recordError_ldCnt (c : ErrCode) (s : State) : (s.recordError c).ldCnt = s.ldCnt := rfl
@[simp] theorem State.recordError_ldSr (c : ErrCode) (s : State) : (s.recordError c).ldSr = s.ldSr := rfl
@[simp] theorem State.recordError_key (c : ErrCode) (s : State) : (s.recordError c).key = s.key := rfl
@[simp] theorem State.recordError_keyCnt (c : ErrCode) (s : State) : (s.recordError c).keyCnt = s.keyCnt := rfl
@[simp] theorem State.recordError_macAct (c : ErrCode) (s : State) : (s.recordError c).macAct = s.macAct := rfl
@[simp] theorem State.recordError_cv (c : ErrCode) (s : State) : (s.recordError c).cv = s.cv := rfl
@[simp] theorem State.recordError_buf (c : ErrCode) (s : State) : (s.recordError c).buf = s.buf := rfl
@[simp] theorem State.recordError_bcnt (c : ErrCode) (s : State) : (s.recordError c).bcnt = s.bcnt := rfl
@[simp] theorem State.recordError_macr (c : ErrCode) (s : State) : (s.recordError c).macr = s.macr := rfl
@[simp] theorem State.recordError_macValid (c : ErrCode) (s : State) : (s.recordError c).macValid = s.macValid := rfl
@[simp] theorem State.recordError_exp (c : ErrCode) (s : State) : (s.recordError c).exp = s.exp := rfl
@[simp] theorem State.recordError_expCnt (c : ErrCode) (s : State) : (s.recordError c).expCnt = s.expCnt := rfl
@[simp] theorem State.recordError_result (c : ErrCode) (s : State) : (s.recordError c).result = 0 := rfl
@[simp] theorem State.recordError_err (c : ErrCode) (s : State) : (s.recordError c).err = if s.err = 0 then c.code else s.err := rfl
@[simp] theorem State.recordError_cerr (c : ErrCode) (s : State) : (s.recordError c).cerr = c.code := rfl
@[simp] theorem State.recordError_pending (c : ErrCode) (s : State) : (s.recordError c).pending = s.pending := rfl
@[simp] theorem State.recordError_responses (c : ErrCode) (s : State) : (s.recordError c).responses = s.responses := rfl

@[simp] theorem State.complete_bm (s : State) : (s.complete).bm = s.bm := rfl
@[simp] theorem State.complete_ldBusy (s : State) : (s.complete).ldBusy = s.ldBusy := rfl
@[simp] theorem State.complete_ldCnt (s : State) : (s.complete).ldCnt = s.ldCnt := rfl
@[simp] theorem State.complete_ldSr (s : State) : (s.complete).ldSr = s.ldSr := rfl
@[simp] theorem State.complete_key (s : State) : (s.complete).key = s.key := rfl
@[simp] theorem State.complete_keyCnt (s : State) : (s.complete).keyCnt = s.keyCnt := rfl
@[simp] theorem State.complete_macAct (s : State) : (s.complete).macAct = s.macAct := rfl
@[simp] theorem State.complete_cv (s : State) : (s.complete).cv = s.cv := rfl
@[simp] theorem State.complete_buf (s : State) : (s.complete).buf = s.buf := rfl
@[simp] theorem State.complete_bcnt (s : State) : (s.complete).bcnt = s.bcnt := rfl
@[simp] theorem State.complete_macr (s : State) : (s.complete).macr = s.macr := rfl
@[simp] theorem State.complete_macValid (s : State) : (s.complete).macValid = s.macValid := rfl
@[simp] theorem State.complete_exp (s : State) : (s.complete).exp = s.exp := rfl
@[simp] theorem State.complete_expCnt (s : State) : (s.complete).expCnt = s.expCnt := rfl
@[simp] theorem State.complete_result (s : State) : (s.complete).result = s.result := rfl
@[simp] theorem State.complete_err (s : State) : (s.complete).err = s.err := rfl
@[simp] theorem State.complete_cerr (s : State) : (s.complete).cerr = 0 := rfl
@[simp] theorem State.complete_pending (s : State) : (s.complete).pending = s.pending := rfl
@[simp] theorem State.complete_responses (s : State) : (s.complete).responses = s.responses := rfl

@[simp] theorem State.setResult_bm (v : Block) (s : State) : (s.setResult v).bm = s.bm := rfl
@[simp] theorem State.setResult_ldBusy (v : Block) (s : State) : (s.setResult v).ldBusy = s.ldBusy := rfl
@[simp] theorem State.setResult_ldCnt (v : Block) (s : State) : (s.setResult v).ldCnt = s.ldCnt := rfl
@[simp] theorem State.setResult_ldSr (v : Block) (s : State) : (s.setResult v).ldSr = s.ldSr := rfl
@[simp] theorem State.setResult_key (v : Block) (s : State) : (s.setResult v).key = s.key := rfl
@[simp] theorem State.setResult_keyCnt (v : Block) (s : State) : (s.setResult v).keyCnt = s.keyCnt := rfl
@[simp] theorem State.setResult_macAct (v : Block) (s : State) : (s.setResult v).macAct = s.macAct := rfl
@[simp] theorem State.setResult_cv (v : Block) (s : State) : (s.setResult v).cv = s.cv := rfl
@[simp] theorem State.setResult_buf (v : Block) (s : State) : (s.setResult v).buf = s.buf := rfl
@[simp] theorem State.setResult_bcnt (v : Block) (s : State) : (s.setResult v).bcnt = s.bcnt := rfl
@[simp] theorem State.setResult_macr (v : Block) (s : State) : (s.setResult v).macr = s.macr := rfl
@[simp] theorem State.setResult_macValid (v : Block) (s : State) : (s.setResult v).macValid = s.macValid := rfl
@[simp] theorem State.setResult_exp (v : Block) (s : State) : (s.setResult v).exp = s.exp := rfl
@[simp] theorem State.setResult_expCnt (v : Block) (s : State) : (s.setResult v).expCnt = s.expCnt := rfl
@[simp] theorem State.setResult_result (v : Block) (s : State) : (s.setResult v).result = v := rfl
@[simp] theorem State.setResult_err (v : Block) (s : State) : (s.setResult v).err = s.err := rfl
@[simp] theorem State.setResult_cerr (v : Block) (s : State) : (s.setResult v).cerr = s.cerr := rfl
@[simp] theorem State.setResult_pending (v : Block) (s : State) : (s.setResult v).pending = s.pending := rfl
@[simp] theorem State.setResult_responses (v : Block) (s : State) : (s.setResult v).responses = s.responses := rfl

@[simp] theorem State.setBm_bm (v : Bitmap) (s : State) : (s.setBm v).bm = v := rfl
@[simp] theorem State.setBm_ldBusy (v : Bitmap) (s : State) : (s.setBm v).ldBusy = s.ldBusy := rfl
@[simp] theorem State.setBm_ldCnt (v : Bitmap) (s : State) : (s.setBm v).ldCnt = s.ldCnt := rfl
@[simp] theorem State.setBm_ldSr (v : Bitmap) (s : State) : (s.setBm v).ldSr = s.ldSr := rfl
@[simp] theorem State.setBm_key (v : Bitmap) (s : State) : (s.setBm v).key = s.key := rfl
@[simp] theorem State.setBm_keyCnt (v : Bitmap) (s : State) : (s.setBm v).keyCnt = s.keyCnt := rfl
@[simp] theorem State.setBm_macAct (v : Bitmap) (s : State) : (s.setBm v).macAct = s.macAct := rfl
@[simp] theorem State.setBm_cv (v : Bitmap) (s : State) : (s.setBm v).cv = s.cv := rfl
@[simp] theorem State.setBm_buf (v : Bitmap) (s : State) : (s.setBm v).buf = s.buf := rfl
@[simp] theorem State.setBm_bcnt (v : Bitmap) (s : State) : (s.setBm v).bcnt = s.bcnt := rfl
@[simp] theorem State.setBm_macr (v : Bitmap) (s : State) : (s.setBm v).macr = s.macr := rfl
@[simp] theorem State.setBm_macValid (v : Bitmap) (s : State) : (s.setBm v).macValid = s.macValid := rfl
@[simp] theorem State.setBm_exp (v : Bitmap) (s : State) : (s.setBm v).exp = s.exp := rfl
@[simp] theorem State.setBm_expCnt (v : Bitmap) (s : State) : (s.setBm v).expCnt = s.expCnt := rfl
@[simp] theorem State.setBm_result (v : Bitmap) (s : State) : (s.setBm v).result = s.result := rfl
@[simp] theorem State.setBm_err (v : Bitmap) (s : State) : (s.setBm v).err = s.err := rfl
@[simp] theorem State.setBm_cerr (v : Bitmap) (s : State) : (s.setBm v).cerr = s.cerr := rfl
@[simp] theorem State.setBm_pending (v : Bitmap) (s : State) : (s.setBm v).pending = s.pending := rfl
@[simp] theorem State.setBm_responses (v : Bitmap) (s : State) : (s.setBm v).responses = s.responses := rfl

@[simp] theorem State.appendKey_bm (b : Byte) (s : State) : (s.appendKey b).bm = s.bm := rfl
@[simp] theorem State.appendKey_ldBusy (b : Byte) (s : State) : (s.appendKey b).ldBusy = s.ldBusy := rfl
@[simp] theorem State.appendKey_ldCnt (b : Byte) (s : State) : (s.appendKey b).ldCnt = s.ldCnt := rfl
@[simp] theorem State.appendKey_ldSr (b : Byte) (s : State) : (s.appendKey b).ldSr = s.ldSr := rfl
@[simp] theorem State.appendKey_key (b : Byte) (s : State) : (s.appendKey b).key = s.key.setIfInBounds s.keyCnt.val b := rfl
@[simp] theorem State.appendKey_keyCnt (b : Byte) (s : State) : (s.appendKey b).keyCnt = s.keyCnt + 1 := rfl
@[simp] theorem State.appendKey_macAct (b : Byte) (s : State) : (s.appendKey b).macAct = s.macAct := rfl
@[simp] theorem State.appendKey_cv (b : Byte) (s : State) : (s.appendKey b).cv = s.cv := rfl
@[simp] theorem State.appendKey_buf (b : Byte) (s : State) : (s.appendKey b).buf = s.buf := rfl
@[simp] theorem State.appendKey_bcnt (b : Byte) (s : State) : (s.appendKey b).bcnt = s.bcnt := rfl
@[simp] theorem State.appendKey_macr (b : Byte) (s : State) : (s.appendKey b).macr = s.macr := rfl
@[simp] theorem State.appendKey_macValid (b : Byte) (s : State) : (s.appendKey b).macValid = s.macValid := rfl
@[simp] theorem State.appendKey_exp (b : Byte) (s : State) : (s.appendKey b).exp = s.exp := rfl
@[simp] theorem State.appendKey_expCnt (b : Byte) (s : State) : (s.appendKey b).expCnt = s.expCnt := rfl
@[simp] theorem State.appendKey_result (b : Byte) (s : State) : (s.appendKey b).result = s.result := rfl
@[simp] theorem State.appendKey_err (b : Byte) (s : State) : (s.appendKey b).err = s.err := rfl
@[simp] theorem State.appendKey_cerr (b : Byte) (s : State) : (s.appendKey b).cerr = s.cerr := rfl
@[simp] theorem State.appendKey_pending (b : Byte) (s : State) : (s.appendKey b).pending = s.pending := rfl
@[simp] theorem State.appendKey_responses (b : Byte) (s : State) : (s.appendKey b).responses = s.responses := rfl

@[simp] theorem State.appendExp_bm (b : Byte) (s : State) : (s.appendExp b).bm = s.bm := rfl
@[simp] theorem State.appendExp_ldBusy (b : Byte) (s : State) : (s.appendExp b).ldBusy = s.ldBusy := rfl
@[simp] theorem State.appendExp_ldCnt (b : Byte) (s : State) : (s.appendExp b).ldCnt = s.ldCnt := rfl
@[simp] theorem State.appendExp_ldSr (b : Byte) (s : State) : (s.appendExp b).ldSr = s.ldSr := rfl
@[simp] theorem State.appendExp_key (b : Byte) (s : State) : (s.appendExp b).key = s.key := rfl
@[simp] theorem State.appendExp_keyCnt (b : Byte) (s : State) : (s.appendExp b).keyCnt = s.keyCnt := rfl
@[simp] theorem State.appendExp_macAct (b : Byte) (s : State) : (s.appendExp b).macAct = s.macAct := rfl
@[simp] theorem State.appendExp_cv (b : Byte) (s : State) : (s.appendExp b).cv = s.cv := rfl
@[simp] theorem State.appendExp_buf (b : Byte) (s : State) : (s.appendExp b).buf = s.buf := rfl
@[simp] theorem State.appendExp_bcnt (b : Byte) (s : State) : (s.appendExp b).bcnt = s.bcnt := rfl
@[simp] theorem State.appendExp_macr (b : Byte) (s : State) : (s.appendExp b).macr = s.macr := rfl
@[simp] theorem State.appendExp_macValid (b : Byte) (s : State) : (s.appendExp b).macValid = s.macValid := rfl
@[simp] theorem State.appendExp_exp (b : Byte) (s : State) : (s.appendExp b).exp = s.exp.setIfInBounds s.expCnt.val b := rfl
@[simp] theorem State.appendExp_expCnt (b : Byte) (s : State) : (s.appendExp b).expCnt = s.expCnt + 1 := rfl
@[simp] theorem State.appendExp_result (b : Byte) (s : State) : (s.appendExp b).result = s.result := rfl
@[simp] theorem State.appendExp_err (b : Byte) (s : State) : (s.appendExp b).err = s.err := rfl
@[simp] theorem State.appendExp_cerr (b : Byte) (s : State) : (s.appendExp b).cerr = s.cerr := rfl
@[simp] theorem State.appendExp_pending (b : Byte) (s : State) : (s.appendExp b).pending = s.pending := rfl
@[simp] theorem State.appendExp_responses (b : Byte) (s : State) : (s.appendExp b).responses = s.responses := rfl

@[simp] theorem State.putMessageByte_bm (b : Byte) (s : State) : (s.putMessageByte b).bm = s.bm := rfl
@[simp] theorem State.putMessageByte_ldBusy (b : Byte) (s : State) : (s.putMessageByte b).ldBusy = s.ldBusy := rfl
@[simp] theorem State.putMessageByte_ldCnt (b : Byte) (s : State) : (s.putMessageByte b).ldCnt = s.ldCnt := rfl
@[simp] theorem State.putMessageByte_ldSr (b : Byte) (s : State) : (s.putMessageByte b).ldSr = s.ldSr := rfl
@[simp] theorem State.putMessageByte_key (b : Byte) (s : State) : (s.putMessageByte b).key = s.key := rfl
@[simp] theorem State.putMessageByte_keyCnt (b : Byte) (s : State) : (s.putMessageByte b).keyCnt = s.keyCnt := rfl
@[simp] theorem State.putMessageByte_macAct (b : Byte) (s : State) : (s.putMessageByte b).macAct = s.macAct := rfl
@[simp] theorem State.putMessageByte_cv (b : Byte) (s : State) : (s.putMessageByte b).cv = s.cv := rfl
@[simp] theorem State.putMessageByte_buf (b : Byte) (s : State) : (s.putMessageByte b).buf = s.buf.setIfInBounds s.bcnt.val b := rfl
@[simp] theorem State.putMessageByte_bcnt (b : Byte) (s : State) : (s.putMessageByte b).bcnt = s.bcnt := rfl
@[simp] theorem State.putMessageByte_macr (b : Byte) (s : State) : (s.putMessageByte b).macr = s.macr := rfl
@[simp] theorem State.putMessageByte_macValid (b : Byte) (s : State) : (s.putMessageByte b).macValid = s.macValid := rfl
@[simp] theorem State.putMessageByte_exp (b : Byte) (s : State) : (s.putMessageByte b).exp = s.exp := rfl
@[simp] theorem State.putMessageByte_expCnt (b : Byte) (s : State) : (s.putMessageByte b).expCnt = s.expCnt := rfl
@[simp] theorem State.putMessageByte_result (b : Byte) (s : State) : (s.putMessageByte b).result = s.result := rfl
@[simp] theorem State.putMessageByte_err (b : Byte) (s : State) : (s.putMessageByte b).err = s.err := rfl
@[simp] theorem State.putMessageByte_cerr (b : Byte) (s : State) : (s.putMessageByte b).cerr = s.cerr := rfl
@[simp] theorem State.putMessageByte_pending (b : Byte) (s : State) : (s.putMessageByte b).pending = s.pending := rfl
@[simp] theorem State.putMessageByte_responses (b : Byte) (s : State) : (s.putMessageByte b).responses = s.responses := rfl

@[simp] theorem State.absorbBlock_bm (s : State) : (s.absorbBlock).bm = s.bm := rfl
@[simp] theorem State.absorbBlock_ldBusy (s : State) : (s.absorbBlock).ldBusy = s.ldBusy := rfl
@[simp] theorem State.absorbBlock_ldCnt (s : State) : (s.absorbBlock).ldCnt = s.ldCnt := rfl
@[simp] theorem State.absorbBlock_ldSr (s : State) : (s.absorbBlock).ldSr = s.ldSr := rfl
@[simp] theorem State.absorbBlock_key (s : State) : (s.absorbBlock).key = s.key := rfl
@[simp] theorem State.absorbBlock_keyCnt (s : State) : (s.absorbBlock).keyCnt = s.keyCnt := rfl
@[simp] theorem State.absorbBlock_macAct (s : State) : (s.absorbBlock).macAct = s.macAct := rfl
@[simp] theorem State.absorbBlock_cv (s : State) : (s.absorbBlock).cv = cipher.enc s.k1 (s.cv ^^^ s.bufBlock) := rfl
@[simp] theorem State.absorbBlock_buf (s : State) : (s.absorbBlock).buf = Vector.replicate 8 0 := rfl
@[simp] theorem State.absorbBlock_bcnt (s : State) : (s.absorbBlock).bcnt = 0 := rfl
@[simp] theorem State.absorbBlock_macr (s : State) : (s.absorbBlock).macr = s.macr := rfl
@[simp] theorem State.absorbBlock_macValid (s : State) : (s.absorbBlock).macValid = s.macValid := rfl
@[simp] theorem State.absorbBlock_exp (s : State) : (s.absorbBlock).exp = s.exp := rfl
@[simp] theorem State.absorbBlock_expCnt (s : State) : (s.absorbBlock).expCnt = s.expCnt := rfl
@[simp] theorem State.absorbBlock_result (s : State) : (s.absorbBlock).result = s.result := rfl
@[simp] theorem State.absorbBlock_err (s : State) : (s.absorbBlock).err = s.err := rfl
@[simp] theorem State.absorbBlock_cerr (s : State) : (s.absorbBlock).cerr = s.cerr := rfl
@[simp] theorem State.absorbBlock_pending (s : State) : (s.absorbBlock).pending = s.pending := rfl
@[simp] theorem State.absorbBlock_responses (s : State) : (s.absorbBlock).responses = s.responses := rfl

@[simp] theorem State.openMac_bm (s : State) : (s.openMac).bm = s.bm := rfl
@[simp] theorem State.openMac_ldBusy (s : State) : (s.openMac).ldBusy = s.ldBusy := rfl
@[simp] theorem State.openMac_ldCnt (s : State) : (s.openMac).ldCnt = s.ldCnt := rfl
@[simp] theorem State.openMac_ldSr (s : State) : (s.openMac).ldSr = s.ldSr := rfl
@[simp] theorem State.openMac_key (s : State) : (s.openMac).key = s.key := rfl
@[simp] theorem State.openMac_keyCnt (s : State) : (s.openMac).keyCnt = s.keyCnt := rfl
@[simp] theorem State.openMac_macAct (s : State) : (s.openMac).macAct = true := rfl
@[simp] theorem State.openMac_cv (s : State) : (s.openMac).cv = 0 := rfl
@[simp] theorem State.openMac_buf (s : State) : (s.openMac).buf = Vector.replicate 8 0 := rfl
@[simp] theorem State.openMac_bcnt (s : State) : (s.openMac).bcnt = 0 := rfl
@[simp] theorem State.openMac_macr (s : State) : (s.openMac).macr = 0 := rfl
@[simp] theorem State.openMac_macValid (s : State) : (s.openMac).macValid = false := rfl
@[simp] theorem State.openMac_exp (s : State) : (s.openMac).exp = s.exp := rfl
@[simp] theorem State.openMac_expCnt (s : State) : (s.openMac).expCnt = s.expCnt := rfl
@[simp] theorem State.openMac_result (s : State) : (s.openMac).result = s.result := rfl
@[simp] theorem State.openMac_err (s : State) : (s.openMac).err = s.err := rfl
@[simp] theorem State.openMac_cerr (s : State) : (s.openMac).cerr = s.cerr := rfl
@[simp] theorem State.openMac_pending (s : State) : (s.openMac).pending = s.pending := rfl
@[simp] theorem State.openMac_responses (s : State) : (s.openMac).responses = s.responses := rfl

@[simp] theorem State.closeMac_bm (m : Block) (s : State) : (s.closeMac m).bm = s.bm := rfl
@[simp] theorem State.closeMac_ldBusy (m : Block) (s : State) : (s.closeMac m).ldBusy = s.ldBusy := rfl
@[simp] theorem State.closeMac_ldCnt (m : Block) (s : State) : (s.closeMac m).ldCnt = s.ldCnt := rfl
@[simp] theorem State.closeMac_ldSr (m : Block) (s : State) : (s.closeMac m).ldSr = s.ldSr := rfl
@[simp] theorem State.closeMac_key (m : Block) (s : State) : (s.closeMac m).key = Vector.replicate 16 0 := rfl
@[simp] theorem State.closeMac_keyCnt (m : Block) (s : State) : (s.closeMac m).keyCnt = 0 := rfl
@[simp] theorem State.closeMac_macAct (m : Block) (s : State) : (s.closeMac m).macAct = false := rfl
@[simp] theorem State.closeMac_cv (m : Block) (s : State) : (s.closeMac m).cv = 0 := rfl
@[simp] theorem State.closeMac_buf (m : Block) (s : State) : (s.closeMac m).buf = Vector.replicate 8 0 := rfl
@[simp] theorem State.closeMac_bcnt (m : Block) (s : State) : (s.closeMac m).bcnt = 0 := rfl
@[simp] theorem State.closeMac_macr (m : Block) (s : State) : (s.closeMac m).macr = m := rfl
@[simp] theorem State.closeMac_macValid (m : Block) (s : State) : (s.closeMac m).macValid = true := rfl
@[simp] theorem State.closeMac_exp (m : Block) (s : State) : (s.closeMac m).exp = s.exp := rfl
@[simp] theorem State.closeMac_expCnt (m : Block) (s : State) : (s.closeMac m).expCnt = s.expCnt := rfl
@[simp] theorem State.closeMac_result (m : Block) (s : State) : (s.closeMac m).result = s.result := rfl
@[simp] theorem State.closeMac_err (m : Block) (s : State) : (s.closeMac m).err = s.err := rfl
@[simp] theorem State.closeMac_cerr (m : Block) (s : State) : (s.closeMac m).cerr = s.cerr := rfl
@[simp] theorem State.closeMac_pending (m : Block) (s : State) : (s.closeMac m).pending = s.pending := rfl
@[simp] theorem State.closeMac_responses (m : Block) (s : State) : (s.closeMac m).responses = s.responses := rfl

@[simp] theorem State.clearExp_bm (s : State) : (s.clearExp).bm = s.bm := rfl
@[simp] theorem State.clearExp_ldBusy (s : State) : (s.clearExp).ldBusy = s.ldBusy := rfl
@[simp] theorem State.clearExp_ldCnt (s : State) : (s.clearExp).ldCnt = s.ldCnt := rfl
@[simp] theorem State.clearExp_ldSr (s : State) : (s.clearExp).ldSr = s.ldSr := rfl
@[simp] theorem State.clearExp_key (s : State) : (s.clearExp).key = s.key := rfl
@[simp] theorem State.clearExp_keyCnt (s : State) : (s.clearExp).keyCnt = s.keyCnt := rfl
@[simp] theorem State.clearExp_macAct (s : State) : (s.clearExp).macAct = s.macAct := rfl
@[simp] theorem State.clearExp_cv (s : State) : (s.clearExp).cv = s.cv := rfl
@[simp] theorem State.clearExp_buf (s : State) : (s.clearExp).buf = s.buf := rfl
@[simp] theorem State.clearExp_bcnt (s : State) : (s.clearExp).bcnt = s.bcnt := rfl
@[simp] theorem State.clearExp_macr (s : State) : (s.clearExp).macr = s.macr := rfl
@[simp] theorem State.clearExp_macValid (s : State) : (s.clearExp).macValid = s.macValid := rfl
@[simp] theorem State.clearExp_exp (s : State) : (s.clearExp).exp = Vector.replicate 8 0 := rfl
@[simp] theorem State.clearExp_expCnt (s : State) : (s.clearExp).expCnt = 0 := rfl
@[simp] theorem State.clearExp_result (s : State) : (s.clearExp).result = s.result := rfl
@[simp] theorem State.clearExp_err (s : State) : (s.clearExp).err = s.err := rfl
@[simp] theorem State.clearExp_cerr (s : State) : (s.clearExp).cerr = s.cerr := rfl
@[simp] theorem State.clearExp_pending (s : State) : (s.clearExp).pending = s.pending := rfl
@[simp] theorem State.clearExp_responses (s : State) : (s.clearExp).responses = s.responses := rfl

@[simp] theorem State.openLoad_bm (s : State) : (s.openLoad).bm = s.bm := rfl
@[simp] theorem State.openLoad_ldBusy (s : State) : (s.openLoad).ldBusy = true := rfl
@[simp] theorem State.openLoad_ldCnt (s : State) : (s.openLoad).ldCnt = 0 := rfl
@[simp] theorem State.openLoad_ldSr (s : State) : (s.openLoad).ldSr = 0 := rfl
@[simp] theorem State.openLoad_key (s : State) : (s.openLoad).key = s.key := rfl
@[simp] theorem State.openLoad_keyCnt (s : State) : (s.openLoad).keyCnt = s.keyCnt := rfl
@[simp] theorem State.openLoad_macAct (s : State) : (s.openLoad).macAct = s.macAct := rfl
@[simp] theorem State.openLoad_cv (s : State) : (s.openLoad).cv = s.cv := rfl
@[simp] theorem State.openLoad_buf (s : State) : (s.openLoad).buf = s.buf := rfl
@[simp] theorem State.openLoad_bcnt (s : State) : (s.openLoad).bcnt = s.bcnt := rfl
@[simp] theorem State.openLoad_macr (s : State) : (s.openLoad).macr = s.macr := rfl
@[simp] theorem State.openLoad_macValid (s : State) : (s.openLoad).macValid = s.macValid := rfl
@[simp] theorem State.openLoad_exp (s : State) : (s.openLoad).exp = s.exp := rfl
@[simp] theorem State.openLoad_expCnt (s : State) : (s.openLoad).expCnt = s.expCnt := rfl
@[simp] theorem State.openLoad_result (s : State) : (s.openLoad).result = s.result := rfl
@[simp] theorem State.openLoad_err (s : State) : (s.openLoad).err = s.err := rfl
@[simp] theorem State.openLoad_cerr (s : State) : (s.openLoad).cerr = s.cerr := rfl
@[simp] theorem State.openLoad_pending (s : State) : (s.openLoad).pending = s.pending := rfl
@[simp] theorem State.openLoad_responses (s : State) : (s.openLoad).responses = s.responses := rfl

@[simp] theorem State.respond_bm (w : Word) (s : State) : (s.respond w).bm = s.bm := rfl
@[simp] theorem State.respond_ldBusy (w : Word) (s : State) : (s.respond w).ldBusy = s.ldBusy := rfl
@[simp] theorem State.respond_ldCnt (w : Word) (s : State) : (s.respond w).ldCnt = s.ldCnt := rfl
@[simp] theorem State.respond_ldSr (w : Word) (s : State) : (s.respond w).ldSr = s.ldSr := rfl
@[simp] theorem State.respond_key (w : Word) (s : State) : (s.respond w).key = s.key := rfl
@[simp] theorem State.respond_keyCnt (w : Word) (s : State) : (s.respond w).keyCnt = s.keyCnt := rfl
@[simp] theorem State.respond_macAct (w : Word) (s : State) : (s.respond w).macAct = s.macAct := rfl
@[simp] theorem State.respond_cv (w : Word) (s : State) : (s.respond w).cv = s.cv := rfl
@[simp] theorem State.respond_buf (w : Word) (s : State) : (s.respond w).buf = s.buf := rfl
@[simp] theorem State.respond_bcnt (w : Word) (s : State) : (s.respond w).bcnt = s.bcnt := rfl
@[simp] theorem State.respond_macr (w : Word) (s : State) : (s.respond w).macr = s.macr := rfl
@[simp] theorem State.respond_macValid (w : Word) (s : State) : (s.respond w).macValid = s.macValid := rfl
@[simp] theorem State.respond_exp (w : Word) (s : State) : (s.respond w).exp = s.exp := rfl
@[simp] theorem State.respond_expCnt (w : Word) (s : State) : (s.respond w).expCnt = s.expCnt := rfl
@[simp] theorem State.respond_result (w : Word) (s : State) : (s.respond w).result = s.result := rfl
@[simp] theorem State.respond_err (w : Word) (s : State) : (s.respond w).err = s.err := rfl
@[simp] theorem State.respond_cerr (w : Word) (s : State) : (s.respond w).cerr = s.cerr := rfl
@[simp] theorem State.respond_pending (w : Word) (s : State) : (s.respond w).pending = s.pending := rfl
@[simp] theorem State.respond_responses (w : Word) (s : State) : (s.respond w).responses = w :: s.responses := rfl

@[simp] theorem State.post_bm (es : List HostEvent) (s : State) : (s.post es).bm = s.bm := rfl
@[simp] theorem State.post_ldBusy (es : List HostEvent) (s : State) : (s.post es).ldBusy = s.ldBusy := rfl
@[simp] theorem State.post_ldCnt (es : List HostEvent) (s : State) : (s.post es).ldCnt = s.ldCnt := rfl
@[simp] theorem State.post_ldSr (es : List HostEvent) (s : State) : (s.post es).ldSr = s.ldSr := rfl
@[simp] theorem State.post_key (es : List HostEvent) (s : State) : (s.post es).key = s.key := rfl
@[simp] theorem State.post_keyCnt (es : List HostEvent) (s : State) : (s.post es).keyCnt = s.keyCnt := rfl
@[simp] theorem State.post_macAct (es : List HostEvent) (s : State) : (s.post es).macAct = s.macAct := rfl
@[simp] theorem State.post_cv (es : List HostEvent) (s : State) : (s.post es).cv = s.cv := rfl
@[simp] theorem State.post_buf (es : List HostEvent) (s : State) : (s.post es).buf = s.buf := rfl
@[simp] theorem State.post_bcnt (es : List HostEvent) (s : State) : (s.post es).bcnt = s.bcnt := rfl
@[simp] theorem State.post_macr (es : List HostEvent) (s : State) : (s.post es).macr = s.macr := rfl
@[simp] theorem State.post_macValid (es : List HostEvent) (s : State) : (s.post es).macValid = s.macValid := rfl
@[simp] theorem State.post_exp (es : List HostEvent) (s : State) : (s.post es).exp = s.exp := rfl
@[simp] theorem State.post_expCnt (es : List HostEvent) (s : State) : (s.post es).expCnt = s.expCnt := rfl
@[simp] theorem State.post_result (es : List HostEvent) (s : State) : (s.post es).result = s.result := rfl
@[simp] theorem State.post_err (es : List HostEvent) (s : State) : (s.post es).err = s.err := rfl
@[simp] theorem State.post_cerr (es : List HostEvent) (s : State) : (s.post es).cerr = s.cerr := rfl
@[simp] theorem State.post_pending (es : List HostEvent) (s : State) : (s.post es).pending = s.pending ++ es := rfl
@[simp] theorem State.post_responses (es : List HostEvent) (s : State) : (s.post es).responses = s.responses := rfl

end Sys2Proof.Machine
end

