-- ==== Sys2Proof/Laws/Ops.lean ====
section
/-! SUPPORT. What the shared operations and a command can do, said once for the provers to cite: raising, succeeding, taking
a character, the shape of a command's outcome, and the steps of a run (spec 60_exceptions.md R205; 30_encoding.md
R80). -/

namespace Sys2Proof.Machine

/-- `raise` answers one next state (R205). -/
theorem raise_eq (g : Group) (c : ErrCode) (s : State) : raise g c s = .next ((s.abort g).recordError c) := rfl

/-- `succeed` answers one next state (R80). -/
theorem succeed_eq (s : State) : succeed s = .next s.complete := rfl

/-- `succeedWith` answers one next state (R24). -/
theorem succeedWith_eq (v : Block) (s : State) : succeedWith v s = .next (s.setResult v).complete := rfl

/-- A MAC command's failure, written out (R205, R206). -/
theorem raise_mac (c : ErrCode) (s : State) : raise .mac c s = .next (macFailure c.code s) := rfl

/-- A loader command's failure, written out (R205, R206). -/
theorem raise_loader (c : ErrCode) (s : State) : raise .loader c s = .next (loaderFailure c.code s) := rfl

/-- The failure of a command of neither group, written out (R205). -/
theorem raise_other (c : ErrCode) (s : State) : raise .other c s = .next (plainFailure c.code s) := rfl

/-- The groups are the opcode ranges of R205. -/
theorem groupOf_eq (i : Instr) :
    groupOf i = if isMacCommand i then .mac else if isLoaderCommand i then .loader else .other := by
  cases i <;> rfl

/-- Only success has the code 0 (R200). -/
theorem code_eq_zero_iff (c : ErrCode) : c.code = 0 ↔ c = .ok := by
  cases c <;> decide

/-- What taking a character does: a commit of the new LD_SR, or one more character taken (R112). -/
theorem takeNibble_cases (v : BitVec 4) (s : State) :
    (((s.ldCnt.val + 1 = 16 ∧ fieldBit (putNibble s.ldSr s.ldCnt.val v) 1 = false) ∨ s.ldCnt.val + 1 = 32) ∧
      s.takeNibble v = { s with bm := putNibble s.ldSr s.ldCnt.val v, ldBusy := false, ldCnt := 0, ldSr := 0 }) ∨
    (¬ ((s.ldCnt.val + 1 = 16 ∧ fieldBit (putNibble s.ldSr s.ldCnt.val v) 1 = false) ∨ s.ldCnt.val + 1 = 32) ∧
      s.takeNibble v = { s with ldCnt := s.ldCnt + 1, ldSr := putNibble s.ldSr s.ldCnt.val v }) := by
  by_cases h : (s.ldCnt.val + 1 = 16 ∧ fieldBit (putNibble s.ldSr s.ldCnt.val v) 1 = false) ∨ s.ldCnt.val + 1 = 32
  · exact .inl ⟨h, if_pos h⟩
  · exact .inr ⟨h, if_neg h⟩

@[simp] theorem State.takeNibble_err (v : BitVec 4) (s : State) : (s.takeNibble v).err = s.err := by
  rcases takeNibble_cases v s with ⟨-, h⟩ | ⟨-, h⟩ <;> rw [h]

@[simp] theorem State.takeNibble_pending (v : BitVec 4) (s : State) : (s.takeNibble v).pending = s.pending := by
  rcases takeNibble_cases v s with ⟨-, h⟩ | ⟨-, h⟩ <;> rw [h]

@[simp] theorem State.takeNibble_responses (v : BitVec 4) (s : State) : (s.takeNibble v).responses = s.responses := by
  rcases takeNibble_cases v s with ⟨-, h⟩ | ⟨-, h⟩ <;> rw [h]

/-- The two shapes of a command's outcome: it raises one code in its own group from the state it began in, or it succeeds
with a state that keeps ERR (but for ERR_CLR) and the host's side of the window (R80, R205). -/
theorem exec_shape (i : Instr) (s : State) :
    (∃ c, c.code ∈ legalCodes ∧ c ≠ .ok ∧ exec i s = raise (groupOf i) c s) ∨
    (∃ t, exec i s = succeed t ∧ (i ≠ .errClr → t.err = s.err) ∧ (i = .errClr → t.err = 0) ∧ SamePort s t) := by
  have fail (g : Group) (c : ErrCode) (r : Result) (hg : g = groupOf i) (hc : c.code ∈ legalCodes) (hn : c ≠ .ok)
      (hr : r = raise g c s) : (∃ c, c.code ∈ legalCodes ∧ c ≠ .ok ∧ r = raise (groupOf i) c s) ∨
      (∃ t, r = succeed t ∧ (i ≠ .errClr → t.err = s.err) ∧ (i = .errClr → t.err = 0) ∧ SamePort s t) :=
    .inl ⟨c, hc, hn, hg ▸ hr⟩
  have done (t : State) (r : Result) (hr : r = succeed t) (he : i ≠ .errClr → t.err = s.err) (h0 : i = .errClr → t.err = 0)
      (hp : t.pending = s.pending) (hq : t.responses = s.responses) :
      (∃ c, c.code ∈ legalCodes ∧ c ≠ .ok ∧ r = raise (groupOf i) c s) ∨
      (∃ t, r = succeed t ∧ (i ≠ .errClr → t.err = s.err) ∧ (i = .errClr → t.err = 0) ∧ SamePort s t) :=
    .inr ⟨t, hr, he, h0, hp, hq⟩
  cases i
  case errClr => exact done { s with err := 0 } _ rfl (fun h => absurd rfl h) (fun _ => rfl) rfl rfl
  all_goals simp only [exec, execNop, execMacClr, execKeyLd, execMacInit, execMacUpd, execMacFin, execExpLd,
    execMacChk, execMacRd, execMacRdh, execBmClr, execBmSet, execBmUnset, execBmTest, execBmNext, execBmRd, execBmWlen,
    execBmWrh, execBmLdb, execBmLdc, execBmLde, succeedWith]
  all_goals repeat' split
  all_goals first
    | exact fail _ _ _ rfl (by decide) (by decide) rfl
    | (refine done _ _ rfl ?_ ?_ ?_ ?_ <;> simp)

/-- A run of no steps. -/
@[simp] theorem run_zero (s : State) : run 0 s = .next s := rfl

/-- A run whose first step goes on. -/
theorem run_succ_of_next {s t : State} (n : Nat) (h : step s = .next t) : run (n + 1) s = run n t := by
  show Host.Core.run Sys2Proof.core (n + 1) s = _
  simp only [Host.Core.run]
  rw [show Sys2Proof.core.step s = Host.Outcome.next t from h]
  rfl

/-- A run of more steps goes on from where a shorter run stopped. -/
theorem run_add_of_next {s t : State} {m : Nat} (n : Nat) (h : run m s = .next t) : run (m + n) s = run n t := by
  induction m generalizing s with
  | zero =>
    rw [run_zero] at h
    cases h
    rw [Nat.zero_add]
  | succ m ih =>
    cases hs : step s with
    | next u =>
      rw [run_succ_of_next m hs] at h
      rw [Nat.add_right_comm, run_succ_of_next (m + n) hs, ih h]
    | fault f => exact nomatch f
    | refused r =>
      exfalso
      have : run (m + 1) s = .refused r := by
        show Host.Core.run Sys2Proof.core (m + 1) s = _
        simp only [Host.Core.run]
        rw [show Sys2Proof.core.step s = Host.Outcome.refused r from hs]
        rfl
      rw [this] at h
      cases h

/-- A step with a write to CMD pending runs the word (R80). -/
theorem step_commandWrite (s : State) (w : Word) (rest : List HostEvent) (h : s.pending = commandWrite w :: rest) :
    step s = runWord w { s with pending := rest } := by
  simp [step, serviceNext, h, commandWrite, service, windowRefusal, Config.windowBytes]

end Sys2Proof.Machine
end

