-- ==== Sys2Proof/Laws/PerInstr.lean ====
section
/-! SUPPORT. Facts proved per command: the family FormC says that a command's word has format C, with the command's own
opcode, a zero RSV, and a zero IMM8 where the command takes no operand (spec 30_encoding.md R70, R72). -/

namespace Sys2Proof.Laws.FormC

/-- The word of the command has format C. -/
def Statement (i : Instr) : Prop :=
  opField (encode i) = i.opcode ∧ rsvField (encode i) = 0 ∧ (i.hasOperand = false → immField (encode i) = 0)

theorem of_fields (i : Instr) (h : i.hasOperand = false → i.operand = 0) : Statement i :=
  ⟨opField_encode i, rsvField_encode i, fun hb => by rw [immField_encode, h hb]⟩

theorem nop : Statement .nop := of_fields _ fun _ => rfl
theorem errClr : Statement .errClr := of_fields _ fun _ => rfl
theorem macClr : Statement .macClr := of_fields _ fun _ => rfl
theorem keyLd (byte : Byte) : Statement (.keyLd byte) := of_fields _ nofun
theorem macInit : Statement .macInit := of_fields _ fun _ => rfl
theorem macUpd (byte : Byte) : Statement (.macUpd byte) := of_fields _ nofun
theorem macFin : Statement .macFin := of_fields _ fun _ => rfl
theorem expLd (byte : Byte) : Statement (.expLd byte) := of_fields _ nofun
theorem macChk : Statement .macChk := of_fields _ fun _ => rfl
theorem macRd : Statement .macRd := of_fields _ fun _ => rfl
theorem macRdh (pos : Nat) : Statement (.macRdh pos) := of_fields _ nofun
theorem bmClr : Statement .bmClr := of_fields _ fun _ => rfl
theorem bmSet (idx : Nat) : Statement (.bmSet idx) := of_fields _ nofun
theorem bmUnset (idx : Nat) : Statement (.bmUnset idx) := of_fields _ nofun
theorem bmTest (idx : Nat) : Statement (.bmTest idx) := of_fields _ nofun
theorem bmNext (start : Nat) : Statement (.bmNext start) := of_fields _ nofun
theorem bmRd (half : Nat) : Statement (.bmRd half) := of_fields _ nofun
theorem bmWlen : Statement .bmWlen := of_fields _ fun _ => rfl
theorem bmWrh (pos : Nat) : Statement (.bmWrh pos) := of_fields _ nofun
theorem bmLdb : Statement .bmLdb := of_fields _ fun _ => rfl
theorem bmLdc (char : Byte) : Statement (.bmLdc char) := of_fields _ nofun
theorem bmLde : Statement .bmLde := of_fields _ fun _ => rfl

end Sys2Proof.Laws.FormC
end

