-- ==== Sys2Proof/Tests/Slice0.lean ====
section
/-! SUPPORT. The model's own tests: decoding by words written out from the opcode map (spec 30_encoding.md R72), the
checks of WellFormed, one step each of vectors of spec 95_test_vectors.md (their ids stand in the names), and, for every
statement with hypotheses, a concrete state and operands that meet them. -/

namespace Sys2Proof.Tests

open Sys2Proof Sys2Proof.Machine

/-! ### Decoding: each word from its row's pattern, OP, sixteen zeros, IMM8 -/

theorem test_decode_nop : (decode 0b00000000000000000000000000000000).toOption = some .nop := by decide
theorem test_decode_errClr : (decode 0b00000001000000000000000000000000).toOption = some .errClr := by decide
theorem test_decode_macClr : (decode 0b00010000000000000000000000000000).toOption = some .macClr := by decide
theorem test_decode_keyLd : (decode 0b00010001000000000000000010000001).toOption = some (.keyLd 0x81) := by decide
theorem test_decode_macInit : (decode 0b00010010000000000000000000000000).toOption = some .macInit := by decide
theorem test_decode_macUpd : (decode 0b00010011000000000000000001000010).toOption = some (.macUpd 0x42) := by decide
theorem test_decode_macFin : (decode 0b00010100000000000000000000000000).toOption = some .macFin := by decide
theorem test_decode_expLd : (decode 0b00010101000000000000000010100011).toOption = some (.expLd 0xA3) := by decide
theorem test_decode_macChk : (decode 0b00010110000000000000000000000000).toOption = some .macChk := by decide
theorem test_decode_macRd : (decode 0b00010111000000000000000000000000).toOption = some .macRd := by decide
theorem test_decode_macRdh : (decode 0b00011000000000000000000000001110).toOption = some (.macRdh 14) := by decide
theorem test_decode_bmClr : (decode 0b00100000000000000000000000000000).toOption = some .bmClr := by decide
theorem test_decode_bmSet : (decode 0b00100001000000000000000001000001).toOption = some (.bmSet 65) := by decide
theorem test_decode_bmUnset : (decode 0b00100010000000000000000010000000).toOption = some (.bmUnset 128) := by decide
theorem test_decode_bmTest : (decode 0b00100011000000000000000000000011).toOption = some (.bmTest 3) := by decide
theorem test_decode_bmNext : (decode 0b00100100000000000000000011111110).toOption = some (.bmNext 254) := by decide
theorem test_decode_bmRd : (decode 0b00100101000000000000000000000001).toOption = some (.bmRd 1) := by decide
theorem test_decode_bmWlen : (decode 0b00100110000000000000000000000000).toOption = some .bmWlen := by decide
theorem test_decode_bmWrh : (decode 0b00100111000000000000000000011111).toOption = some (.bmWrh 31) := by decide
theorem test_decode_bmLdb : (decode 0b00101000000000000000000000000000).toOption = some .bmLdb := by decide
theorem test_decode_bmLdc : (decode 0b00101001000000000000000001100110).toOption = some (.bmLdc 0x66) := by decide
theorem test_decode_bmLde : (decode 0b00101010000000000000000000000000).toOption = some .bmLde := by decide

/-- Why a word is illegal, by name. -/
def rejection (w : Word) : Option DecodeError :=
  match decode w with
  | .ok _ => none
  | .error e => some e

theorem test_reject_unassigned : rejection 0x02000000 = some .unknownOpcode ∧ rejection 0x19000000 = some .unknownOpcode ∧
    rejection 0x2B000000 = some .unknownOpcode ∧ rejection 0xFF0000FF = some .unknownOpcode := by decide
theorem test_reject_reserved : rejection 0x21000102 = some .reservedNotZero ∧
    rejection 0x14800000 = some .reservedNotZero := by decide
theorem test_reject_operand : rejection 0x00000001 = some .operandNotZero ∧
    rejection 0x20000001 = some .operandNotZero := by decide

/-! ### WellFormed: an ill-formed term for each check -/

theorem test_illFormed_macRdh : (Instr.macRdh 256).wellFormed = false := by decide
theorem test_illFormed_bmSet : (Instr.bmSet 256).wellFormed = false := by decide
theorem test_illFormed_bmUnset : (Instr.bmUnset 300).wellFormed = false := by decide
theorem test_illFormed_bmTest : (Instr.bmTest 256).wellFormed = false := by decide
theorem test_illFormed_bmNext : (Instr.bmNext 1000).wellFormed = false := by decide
theorem test_illFormed_bmRd : (Instr.bmRd 256).wellFormed = false := by decide
theorem test_illFormed_bmWrh : (Instr.bmWrh 512).wellFormed = false := by decide
theorem test_wellFormed_outOfRange : (Instr.bmSet 255).wellFormed = true := by decide

/-! ### One step -/

/-- The state after one step with the word written to CMD. -/
def stepWord (w : Word) (s : State) : Option State :=
  match step { s with pending := [commandWrite w] } with
  | .next t => some t
  | .fault _ => none
  | .refused _ => none

/-- RESULT and STATUS after one step. -/
def answer (w : Word) (s : State) : Option (Block × Word) := (stepWord w s).map fun t => (t.result, t.status)

/-- Key A of the vectors. -/
def keyA : Vector Byte 16 :=
  #v[0x01, 0x23, 0x45, 0x67, 0x89, 0xAB, 0xCD, 0xEF, 0xFE, 0xDC, 0xBA, 0x98, 0x76, 0x54, 0x32, 0x10]

/-- After KEY16 A. -/
def keyed : State := { State.reset with key := keyA, keyCnt := 16 }

/-- After MAC_INIT. -/
def opened : State := { keyed with macAct := true }

/-- After the seven bytes "1234567". -/
def sevenBytes : State := { opened with buf := #v[0x31, 0x32, 0x33, 0x34, 0x35, 0x36, 0x37, 0], bcnt := 7 }

/-- After the nine bytes "123456789". -/
def nineBytes : State := { opened with cv := 0xBD0B1A49070AC376, buf := #v[0x39, 0, 0, 0, 0, 0, 0, 0], bcnt := 1 }

/-- After MAC_FIN. -/
def finished : State := { State.reset with macr := 0x78E41F584ED4884F, macValid := true, result := 0x78E41F584ED4884F }

/-- With the right expected MAC loaded. -/
def checkable : State := { finished with exp := #v[0x78, 0xE4, 0x1F, 0x58, 0x4E, 0xD4, 0x88, 0x4F], expCnt := 8 }

/-- With an expected MAC whose last bit differs. -/
def tampered : State := { finished with exp := #v[0x78, 0xE4, 0x1F, 0x58, 0x4E, 0xD4, 0x88, 0x4E], expCnt := 8 }

/-- A state with a given bitmap. -/
def bits (v : Bitmap) : State := { State.reset with bm := v }

/-- A load with `n` characters taken. -/
def loading (n : Fin 32) (v : Bitmap) : State := { State.reset with ldBusy := true, ldCnt := n, ldSr := v }

theorem test_E2_nop : answer 0x00000000 { State.reset with err := 9, cerr := 9 } = some (0, 0x09) := by decide
theorem test_E3_errClr : answer 0x01000000 { State.reset with err := 9, cerr := 9 } = some (0, 0) := by decide
theorem test_K30_macClr : answer 0x10000000 checkable = some (0x78E41F584ED4884F, 0) := by decide
theorem test_K1_keyLd : (stepWord 0x11000001 State.reset).map (fun t => (t.key[0], t.status)) = some (0x01, 0x1000) := by
  decide
theorem test_K3_keyLd : answer 0x11000000 keyed = some (0, 0x88) := by decide
theorem test_K4_macInit : answer 0x12000000 keyed = some (0, 0x10100) := by decide
theorem test_K7_macInit : (stepWord 0x12000000 opened).map (fun t => (t.key[0], t.status)) = some (0, 0xBB) := by decide
theorem test_K10_macUpd : (stepWord 0x13000038 sevenBytes).map (fun t => (t.cv, t.status)) =
    some (0xBD0B1A49070AC376, 0x10100) := by decide +kernel
theorem test_K11_macUpd : answer 0x13000031 State.reset = some (0, 0xBB) := by decide
theorem test_K14_macFin : answer 0x14000000 nineBytes = some (0x78E41F584ED4884F, 0x200) := by decide +kernel
theorem test_K15_macFin : answer 0x14000000 State.reset = some (0, 0xBB) := by decide
theorem test_K23_expLd : (stepWord 0x15000078 State.reset).map (fun t => (t.exp[0], t.status)) =
    some (0x78, 0x100000) := by decide
theorem test_K24_expLd : answer 0x15000000 checkable = some (0, 0xBB) := by decide
theorem test_K25_macChk : answer 0x16000000 checkable = some (1, 0x200) := by decide
theorem test_K27_macChk : answer 0x16000000 tampered = some (0, 0x77) := by decide
theorem test_K16_macRd : answer 0x17000000 finished = some (0x78E41F584ED4884F, 0x200) := by decide
theorem test_K18_macRdh : answer 0x1800000F finished = some (0x46, 0x200) := by decide
theorem test_K21_macRdh : answer 0x18000010 State.reset = some (0, 0xBB) := by decide
theorem test_B41_bmClr : (stepWord 0x20000000 (bits 0x62000000000000000000000000000000)).map (fun t => t.bm) = some 0 := by
  decide
theorem test_B3_bmSet : (stepWord 0x21000041 State.reset).map (fun t => (t.bm, t.status)) =
    some (0x80000000000000008000000000000000, 0x800) := by decide
theorem test_B7_bmSet : answer 0x21000081 State.reset = some (0, 0x99) := by decide
theorem test_B12_bmUnset : answer 0x22000001 (bits 0x80000000000000008000000000000000) = some (0, 0x8CC) := by decide
theorem test_B14_bmUnset : (stepWord 0x22000041 (bits 0x80000000000000008000000000000000)).map (fun t => t.bm) =
    some 0x80000000000000000000000000000000 := by decide
theorem test_B16_bmTest : answer 0x23000003 (bits 0x20000000000000000000000000000000) = some (1, 0) := by decide
theorem test_B19_bmTest : answer 0x23000081 (bits 0x20000000000000000000000000000000) = some (0, 0x99) := by decide
theorem test_B24_bmNext : answer 0x24000002 (bits 0x80000000000000000000000000000001) = some (0x80, 0x800) := by
  decide +kernel
theorem test_B26_bmNext : answer 0x24000081 (bits 0x80000000000000000000000000000001) = some (0, 0x800) := by decide
theorem test_B28_bmRd : answer 0x25000000 (bits 0xE2000000000000008000000000000001) =
    some (0xE200000000000000, 0x800) := by decide
theorem test_B29_bmRd : answer 0x25000001 (bits 0xE2000000000000008000000000000001) =
    some (0x8000000000000001, 0x800) := by decide
theorem test_B32_bmWlen : answer 0x26000000 (bits 0x80000000000000000000000000000000) = some (0x20, 0x800) := by decide
theorem test_B33_bmWrh : answer 0x27000000 (bits 0x62000000000000000000000000000000) = some (0x36, 0) := by decide
theorem test_B36_bmWrh : answer 0x27000010 (bits 0x62000000000000000000000000000000) = some (0, 0x99) := by decide
theorem test_L1_bmLdb : answer 0x28000000 State.reset = some (0, 0x400) := by decide
theorem test_L2_bmLdb : answer 0x28000000 (loading 0 0) = some (0, 0xBB) := by decide
theorem test_L9_bmLdc : (stepWord 0x29000031 (loading 15 0x72000000000000000000000000000000)).map
    (fun t => (t.bm, t.status)) = some (0x72000000000000010000000000000000, 0) := by decide
theorem test_L10_bmLdc : (stepWord 0x29000038 (loading 16 0xF2000000000000000000000000000000)).map
    (fun t => (t.ldSr, t.status)) = some (0xF2000000000000008000000000000000, 0x11000400) := by decide
theorem test_L14_bmLde : answer 0x2A000000 (loading 16 0xF2000000000000000000000000000000) = some (0, 0x22) := by decide
theorem test_L19_bmLde : answer 0x2A000000 State.reset = some (0, 0) := by decide
theorem test_E11_illegal : answer 0x14800000 { opened with buf := #v[0x31, 0x32, 0, 0, 0, 0, 0, 0], bcnt := 2 } =
    some (0, 0x501AA) := by decide

/-- The words of the window after one access (R51), from the state at the end of K14. -/
theorem test_read_resultHi : (match step { finished with pending := [.read 0x8 4] } with
    | .next t => t.responses
    | .fault _ => []
    | .refused _ => []) = [0x78E41F58] := by decide

/-- A halfword read is refused (R52, I10), as is a read at offset 0x10 (I11). -/
theorem test_refused_accesses : windowRefusal 0x4 2 = some .busError ∧ windowRefusal 0x6 4 = some .busError ∧
    windowRefusal 0x10 4 = some .outsideWindow ∧ windowRefusal 0xC 4 = none := by decide

/-- R175, and row X5: parity bits are ignored. -/
theorem test_X5_cipher : cipher.enc 0x1D1D1D1D1D1D1D1D 0 = 0x77800CBA1E6054A5 := by decide +kernel
theorem test_X8_cipher : cipher.dec 0xFEDCBA9876543210 0xD5D44FF720683D0D = 0xCB385E7B666BD8B4 := by decide +kernel

/-- Row M9 of the vectors: the reference function on "123456789". -/
theorem test_M9_rmac : rmac cipher keyA.toList [0x31, 0x32, 0x33, 0x34, 0x35, 0x36, 0x37, 0x38, 0x39] =
    some 0x78E41F584ED4884F := by decide +kernel

/-- R81: the forms of an operand, and the refusals. -/
theorem test_assemble : (Asm.assembleLine ['b', 'm', '_', 's', 'e', 't', ' ', '6', '5', ' ', ';', 'x']).toOption =
      some (some 0x21000041) ∧
    (Asm.assembleLine ['B', 'M', '_', 'L', 'D', 'C', ' ', '\'', 'F', '\'']).toOption = some (some 0x29000046) ∧
    (Asm.assembleLine ['K', 'E', 'Y', '_', 'L', 'D', ' ', '2', '5', '6']).toOption = none ∧
    (Asm.assembleLine ['N', 'O', 'P', ' ', '0']).toOption = none := by decide

/-! ### Witnesses: states and operands that meet the hypotheses of the statements -/

theorem witness_KeyLdResult : opened.macAct = true ∧ (keyed.macAct = false ∧ keyed.keyCnt.val = 16) ∧
    (State.reset.macAct = false ∧ State.reset.keyCnt.val < 16) ∧
    ({ keyed with keyCnt := 15 } : State).keyCnt.val < 16 := by decide
theorem witness_MacInitResult : opened.macAct = true ∧ (State.reset.macAct = false ∧ State.reset.keyCnt.val ≠ 16) ∧
    (keyed.macAct = false ∧ keyed.keyCnt.val = 16) := by decide
theorem witness_MacUpdResult : State.reset.macAct = false ∧ (opened.macAct = true ∧ opened.bcnt.val < 7) ∧
    (sevenBytes.macAct = true ∧ sevenBytes.bcnt.val = 7) := by decide
theorem witness_MacFinResult : State.reset.macAct = false ∧ nineBytes.macAct = true := by decide
theorem witness_ExpLdResult : checkable.expCnt.val = 8 ∧ State.reset.expCnt.val < 8 := by decide
theorem witness_MacChkResult : State.reset.macValid = false ∧ (finished.macValid = true ∧ finished.expCnt.val ≠ 8) ∧
    (tampered.macValid = true ∧ tampered.expCnt.val = 8 ∧
      packBlock [0x78, 0xE4, 0x1F, 0x58, 0x4E, 0xD4, 0x88, 0x4E] ≠ tampered.macr) ∧
    (checkable.macValid = true ∧ checkable.expCnt.val = 8 ∧
      packBlock [0x78, 0xE4, 0x1F, 0x58, 0x4E, 0xD4, 0x88, 0x4F] = checkable.macr) := by decide
theorem witness_MacRdhResult : State.reset.macValid = false ∧ (finished.macValid = true ∧ 15 < 16) ∧
    (finished.macValid = true ∧ 15 ≤ 15) := by decide
theorem witness_MacRdResult : State.reset.macValid = false ∧ finished.macValid = true := by decide
theorem witness_BmSetResult : (0 = 0 ∨ 129 ≤ 0) ∧ (129 = 0 ∨ 129 ≤ 129) ∧ (1 ≤ 1 ∧ 1 ≤ 128) ∧ (1 ≤ 128 ∧ 128 ≤ 128) := by
  decide
/-- Indices 0 and 129; 1 with field 65 present; 1 with an empty secondary half; 65 with one that is not. -/
theorem witness_BmUnsetResult : (0 = 0 ∨ 129 ≤ 0) ∧ (129 = 0 ∨ 129 ≤ 129) ∧
    (1 = 1 ∧ fieldBit (bits 0x80000000000000008000000000000000).bm 65 = true) ∧
    (1 ≤ 1 ∧ 1 ≤ 128 ∧ ∀ k, k < 64 → fieldBit (bits 0x80000000000000000000000000000000).bm (65 + k) = false) ∧
    (1 ≤ 65 ∧ 65 ≤ 128 ∧ 65 ≠ 1) := by decide
theorem witness_BmTestResult : (129 = 0 ∨ 129 ≤ 129) ∧ (1 ≤ 1 ∧ 1 ≤ 128) ∧ (1 ≤ 128 ∧ 128 ≤ 128) := by decide
/-- No field from 129 on; and field 128 the first from 2 on. -/
theorem witness_BmNextResult : (∀ j, max 129 1 ≤ j → j ≤ 128 → fieldBit (bits 1).bm j = false) ∧
    (max 2 1 ≤ 128 ∧ fieldBit (bits 0x80000000000000000000000000000001).bm 128 = true ∧
      ∀ k, k < 126 → fieldBit (bits 0x80000000000000000000000000000001).bm (2 + k) = false) := by
  constructor
  · intro j h1 h2
    omega
  · decide
theorem witness_IterationYieldsFields : 129 ≤ 129 := by decide
theorem witness_BmRdResult : 2 ≤ 2 ∧ 0 ≤ 1 ∧ 1 ≤ 1 := by decide
theorem witness_BmWrhResult :
    ((if fieldBit State.reset.bm 1 then 32 else 16) ≤ 16 ∧ 15 < (if fieldBit State.reset.bm 1 then 32 else 16)) ∧
    ((if fieldBit (bits 0x80000000000000000000000000000000).bm 1 then 32 else 16) ≤ 32 ∧
      31 < (if fieldBit (bits 0x80000000000000000000000000000000).bm 1 then 32 else 16)) := by decide
theorem witness_SecondaryActivation : (64 < 65 ∧ 65 ≤ 128) ∧ (64 < 128 ∧ 128 ≤ 128) := by decide
theorem witness_BmLdbResult : (loading 0 0).ldBusy = true ∧ State.reset.ldBusy = false := by decide
/-- The characters at both ends of each range of digits, and those just outside. -/
theorem witness_BmLdcResult : State.reset.ldBusy = false ∧ (loading 15 0).ldBusy = true ∧
    (∀ c ∈ ([0x2F, 0x3A, 0x40, 0x47, 0x60, 0x67] : List Byte), hexval c = none) ∧
    (∀ p ∈ ([(0x30, 0), (0x39, 9), (0x41, 10), (0x46, 15), (0x61, 10), (0x66, 15)] : List (Byte × Nat)),
      (0x30 ≤ p.1.toNat ∧ p.1.toNat ≤ 0x39 ∧ p.2 = p.1.toNat - 0x30) ∨
        (0x41 ≤ p.1.toNat ∧ p.1.toNat ≤ 0x46 ∧ p.2 = p.1.toNat - 0x41 + 10) ∨
        (0x61 ≤ p.1.toNat ∧ p.1.toNat ≤ 0x66 ∧ p.2 = p.1.toNat - 0x61 + 10)) := by decide
theorem witness_BmLdeResult : (loading 5 0).ldBusy = true ∧ State.reset.ldBusy = false := by decide

/-- A bitmap with its wire form pending. -/
def reloading (bm : BitVec 128) : State :=
  { bits bm with pending := commandWrites (Asm.bmload (wireForm (bits bm))) ++ [.reset] }

/-- A wire form of 32 characters (BM[1] is 1) meets the premises. -/
theorem witness_WireRoundTrip :
    let s := reloading 0xE2000000000000008000000000000001
    (wireForm s).length = 32 ∧ (fieldBit s.bm 1 = false → ∀ i, 65 ≤ i → i ≤ 128 → fieldBit s.bm i = false) ∧
    s.ldBusy = false ∧ s.pending = commandWrites (Asm.bmload (wireForm s)) ++ [.reset] :=
  ⟨by decide, fun h => absurd h (by decide), by decide, rfl⟩
/-- A wire form of 16 characters (BM[1] is 0, no field above 64) meets them too. -/
theorem witness_WireRoundTrip_short :
    let s := reloading 0x72000000000000010000000000000000
    (wireForm s).length = 16 ∧ fieldBit s.bm 1 = false ∧ (∀ i, 65 ≤ i → i ≤ 128 → fieldBit s.bm i = false) ∧
    s.ldBusy = false ∧ s.pending = commandWrites (Asm.bmload (wireForm s)) ++ [.reset] := by
  refine ⟨by decide, by decide, fun i h1 h2 => ?_, by decide, rfl⟩
  have key : ∀ k, k < 64 → fieldBit (reloading 0x72000000000000010000000000000000).bm (65 + k) = false := by decide
  rw [show i = 65 + (i - 65) by omega]
  exact key _ (by omega)

/-- A command that succeeds and one that fails, in each group. -/
theorem witness_OutcomeRecord :
    (∃ t, exec .errClr finished = .next t ∧ t.cerr = 0) ∧ (∃ t, exec (.keyLd 0) keyed = .next t ∧ t.cerr ≠ 0) ∧
    (∃ t, exec .bmLde (loading 5 0) = .next t ∧ t.cerr ≠ 0) ∧ (∃ t, exec (.bmSet 0) finished = .next t ∧ t.cerr ≠ 0) :=
  ⟨⟨_, rfl, by decide⟩, ⟨_, rfl, by decide⟩, ⟨_, rfl, by decide⟩, ⟨_, rfl, by decide⟩⟩
theorem witness_StepKeepsLegalCodes : finished.err ∈ legalCodes ∧ finished.cerr ∈ legalCodes ∧
    ∃ t, step { finished with pending := [.reset] } = .next t := ⟨by decide, by decide, _, rfl⟩
theorem witness_ResultKeptOrZeroed :
    (∃ t, exec (.bmSet 3) finished = .next t ∧ t.cerr = 0 ∧ writesResult (.bmSet 3) = false) ∧
    (∃ t, exec (.bmSet 0) finished = .next t ∧ t.cerr ≠ 0) := ⟨⟨_, rfl, by decide, rfl⟩, ⟨_, rfl, by decide⟩⟩
theorem witness_KeyLastsOneMac :
    (isMacCommand .macRd = true ∧ ∃ t, exec .macRd opened = .next t ∧ t.cerr ≠ 0) ∧
    (isMacCommand .macFin = true ∧ ∃ t, exec .macFin State.reset = .next t) := ⟨⟨rfl, _, rfl, by decide⟩, rfl, _, rfl⟩
theorem witness_UnitsIndependent :
    (isMacCommand (.keyLd 1) = true ∧ ∃ t, exec (.keyLd 1) State.reset = .next t) ∧
    (isBitmapCommand (.bmLdc 0x37) = true ∧ ∃ t, exec (.bmLdc 0x37) (loading 0 0) = .next t) :=
  ⟨⟨rfl, _, rfl⟩, rfl, _, rfl⟩
theorem witness_BitmapCommandsDuringLoad : isBitmapCommand (.bmSet 10) = true ∧ isLoaderCommand (.bmSet 10) = false ∧
    ∃ t, exec (.bmSet 10) (loading 3 0x72000000000000000000000000000000) = .next t := ⟨rfl, rfl, _, rfl⟩

/-- Two states that differ only in KEY, with a MAC_INIT pending. -/
theorem witness_SecretsUnreadable :
    SameButSecrets { keyed with pending := [commandWrite 0x12000000] }
      { keyed with key := Vector.replicate 16 0x1C, pending := [commandWrite 0x12000000] } ∧
    (∀ rest, ({ keyed with pending := [commandWrite 0x12000000] } : State).pending ≠
      commandWrite (encode .macFin) :: rest) ∧
    ∃ t, step { keyed with pending := [commandWrite 0x12000000] } = .next t := by
  refine ⟨rfl, ?_, _, rfl⟩
  intro rest h
  have := (List.cons.inj h).1
  exact absurd this (by decide)

theorem witness_DecodeEncode : (Instr.bmSet 255).wellFormed = true ∧ (Instr.macRdh 0).wellFormed = true := by decide
theorem witness_EncodeDecode : decode 0x21000041 = .ok (.bmSet 65) := rfl
theorem witness_LegalWords : ¬ Legal 0x21000102 ∧ ∃ s : State, s.pending = commandWrite 0x21000102 :: [.reset] :=
  ⟨fun h => absurd h.2.1 (by decide), { State.reset with pending := commandWrite 0x21000102 :: [.reset] }, rfl⟩
theorem witness_AssembledOperands : ("KEY_LD", 0x11, true) ∈ Asm.mnemonicRows ∧
    ("NOP", 0x00, false) ∈ Asm.mnemonicRows := by decide
theorem witness_StepRunsDecoded : ({ State.reset with pending := [commandWrite 0x21000041] } : State).pending =
    commandWrite 0x21000041 :: [] ∧ decode 0x21000041 = .ok (.bmSet 65) := ⟨rfl, rfl⟩
theorem witness_StepTotalOnCommands : ({ opened with pending := [commandWrite 0xFF0000FF] } : State).pending =
    commandWrite 0xFF0000FF :: [] := rfl
/-- Each register read, and each ignored write. -/
theorem witness_WindowAccesses :
    (∀ p ∈ ([(0x0, 0), (0x4, 0x200), (0x8, 0x78E41F58), (0xC, 0x4ED4884F)] : List (Nat × Word)),
      (p.1 = 0x0 ∧ p.2 = 0) ∨ (p.1 = 0x4 ∧ p.2 = finished.status) ∨
        (p.1 = 0x8 ∧ p.2.toNat = finished.result.toNat / 2 ^ 32) ∨
        (p.1 = 0xC ∧ p.2.toNat = finished.result.toNat % 2 ^ 32)) ∧
    (∀ a ∈ [0x4, 0x8, 0xC], ({ finished with pending := [.write a 4 7] } : State).pending = .write a 4 7 :: [] ∧
      (a = 0x4 ∨ a = 0x8 ∨ a = 0xC)) := by decide
/-- An access refused for each reason, and for both (named outsideWindow: log entry 6); the last offset that is not
refused; and an idle step, which is not refused either (log entry 3). -/
theorem witness_StepRefusesExactly :
    step { finished with pending := [.read 0x10 4] } = .refused .outsideWindow ∧
    step { finished with pending := [.write 0xF 4 0] } = .refused .busError ∧
    step { finished with pending := [.read 0x4 2] } = .refused .busError ∧
    step { finished with pending := [.read 0x11 2] } = .refused .outsideWindow ∧
    (∃ t, step { finished with pending := [.read 0xC 4] } = .next t) ∧
    step { finished with pending := [] } = .next { finished with pending := [] } :=
  ⟨rfl, rfl, rfl, rfl, ⟨_, rfl⟩, rfl⟩
theorem witness_WindowDecode : 0 < 16 ∧ 15 < 16 ∧ Config.base + 16 ≤ Config.base + 16 := ⟨by decide, by decide, Nat.le_refl _⟩
theorem witness_ResetValues : State.reset = State.reset := rfl

/-- A state with every unit busy meets the invariants. -/
def busy : State :=
  { nineBytes with
    bm := 0xE2000000000000008000000000000001, ldBusy := true, ldCnt := 1, ldSr := 0x80000000000000000000000000000000,
    exp := #v[0xAA, 0xBB, 0, 0, 0, 0, 0, 0], expCnt := 2, pending := [commandWrite 0x2A000000] }

theorem witness_StepKeepsInvariant : Inv busy ∧ ∃ t, step busy = .next t := by
  refine ⟨⟨fun h => absurd h (by decide), by decide, by decide, by decide, by decide, fun h => absurd h (by decide),
    by decide, fun h => absurd h (by decide), fun _ => ⟨fun i h1 h2 => ?_, by decide⟩⟩, _, rfl⟩
  have key : ∀ k, k < 124 → fieldBit busy.ldSr (5 + k) = false := by decide
  have := key (i - 5) (by simp [busy] at h1; omega)
  rwa [show 5 + (i - 5) = i by simp [busy] at h1; omega] at this

theorem witness_SoftReset : ({ busy with
    pending := commandWrites [.macClr, .bmClr, .bmLdb, .bmLde, .errClr] ++ [.reset] } : State).pending =
    commandWrites [.macClr, .bmClr, .bmLdb, .bmLde, .errClr] ++ [.reset] := rfl
theorem witness_MacSequence : keyA.toList.length = 16 ∧ State.reset.macAct = false ∧ State.reset.keyCnt = 0 ∧
    ∃ s : State, s.macAct = false ∧ s.keyCnt = 0 ∧
      s.pending = commandWrites (keyA.toList.map .keyLd ++ [.macInit] ++ Asm.msg [0x31] ++ [.macFin]) ++ [] :=
  ⟨by decide, rfl, rfl, { State.reset with
    pending := commandWrites (keyA.toList.map .keyLd ++ [.macInit] ++ Asm.msg [0x31] ++ [.macFin]) ++ [] }, rfl, rfl, rfl⟩
/-- Both outcomes: row M2's MAC is the expected value, and is not. -/
theorem witness_VerificationFlow : keyA.toList.length = 16 ∧
    rmac cipher keyA.toList [0] = some (packBlock [0x08, 0xD7, 0xB4, 0xFB, 0x62, 0x9D, 0x08, 0x85]) ∧
    rmac cipher keyA.toList [0] ≠ some (packBlock [0x08, 0xD7, 0xB4, 0xFB, 0x62, 0x9D, 0x08, 0x84]) ∧
    ∃ s : State, s.pending = commandWrites (Asm.macgen keyA.toList [0] ++
      Asm.exp8 [0x08, 0xD7, 0xB4, 0xFB, 0x62, 0x9D, 0x08, 0x85] ++ [.macChk]) ++ [] := by
  refine ⟨by decide, by decide +kernel, by decide +kernel, { busy with pending := _ }, rfl⟩
theorem witness_PaddingInvisible : 1 ≤ ([0x31] : List Byte).length % 8 ∧ ([0x31] : List Byte).length % 8 + 6 ≤ 7 := by
  decide
theorem witness_EqualHalves : (List.replicate 8 (0x1C : Byte)).length = 8 := by decide
theorem witness_ParityIgnored : (0x1C1C1C1C1C1C1C1C : Block) &&& 0xFEFEFEFEFEFEFEFE =
    0x1D1D1D1D1D1D1D1D &&& 0xFEFEFEFEFEFEFEFE := by decide

end Sys2Proof.Tests
end

section
/-! PROOFS. What one step and one command can do, said once: the events a step services, the two readings of a command
word, and outcomes followed along the branches of a command's meaning (spec 20_memory.md R51, R52; 30_encoding.md R74,
R80). -/

namespace Sys2Proof.Machine

/-! ### The events a step services -/

theorem windowRefusal_eq_none_iff (offset width : Nat) :
    windowRefusal offset width = none ↔ offset < 16 ∧ width = 4 ∧ offset % 4 = 0 := by
  have hwindow : Config.windowBytes = 16 := rfl
  unfold windowRefusal
  split_ifs with hout hbus <;> simp <;> omega

/-- With no access pending a step is idle (R221). -/
theorem step_idle {s : State} (h : s.pending = []) : step s = .next s := by
  simp [step, serviceNext, h]

/-- The step of the platform's reset (R240). -/
theorem step_reset {s : State} {rest : List HostEvent} (h : s.pending = .reset :: rest) :
    step s = .next ({ s with pending := rest } : State).applyReset := by
  simp [step, serviceNext, service, h]

/-- The step of a read the window accepts (R51). -/
theorem step_read {s : State} {a n : Nat} {rest : List HostEvent} (h : s.pending = .read a n :: rest)
    (hw : windowRefusal a n = none) :
    step s = .next (({ s with pending := rest } : State).respond (s.readWindow a)) := by
  simp only [step, serviceNext, service, h, hw]
  rfl

/-- The step of a write the window accepts but ignores (R51, R53). -/
theorem step_ignoredWrite {s : State} {a n : Nat} {w : Word} {rest : List HostEvent}
    (h : s.pending = .write a n w :: rest) (hw : windowRefusal a n = none) (ha : a ≠ 0) :
    step s = .next { s with pending := rest } := by
  simp [step, serviceNext, service, h, hw, ha]

/-- A step that goes on was idle, or serviced a reset, an accepted read, an ignored write or a command write. -/
theorem step_next_cases {s t : State} (h : step s = .next t) :
    (s.pending = [] ∧ t = s) ∨
    (∃ rest, s.pending = .reset :: rest ∧ t = ({ s with pending := rest } : State).applyReset) ∨
    (∃ a n rest, s.pending = .read a n :: rest ∧ windowRefusal a n = none ∧
      t = ({ s with pending := rest } : State).respond (s.readWindow a)) ∨
    (∃ a n w rest, s.pending = .write a n w :: rest ∧ windowRefusal a n = none ∧ a ≠ 0 ∧
      t = { s with pending := rest }) ∨
    (∃ w rest, s.pending = commandWrite w :: rest ∧ runWord w { s with pending := rest } = .next t) := by
  match hp : s.pending with
  | [] =>
    rw [step_idle hp] at h
    cases h
    exact .inl ⟨rfl, rfl⟩
  | .reset :: rest =>
    rw [step_reset hp] at h
    cases h
    exact .inr (.inl ⟨rest, rfl, rfl⟩)
  | .read a n :: rest =>
    cases hw : windowRefusal a n with
    | some r => simp [step, serviceNext, service, hp, hw] at h
    | none =>
      rw [step_read hp hw] at h
      cases h
      exact .inr (.inr (.inl ⟨a, n, rest, rfl, hw, rfl⟩))
  | .write a n w :: rest =>
    cases hw : windowRefusal a n with
    | some r => simp [step, serviceNext, service, hp, hw] at h
    | none =>
      by_cases ha : a = 0
      · obtain ⟨-, rfl, -⟩ := (windowRefusal_eq_none_iff a n).1 hw
        subst ha
        rw [step_commandWrite s w rest hp] at h
        exact .inr (.inr (.inr (.inr ⟨w, rest, rfl, h⟩)))
      · rw [step_ignoredWrite hp hw ha] at h
        cases h
        exact .inr (.inr (.inr (.inl ⟨a, n, w, rest, rfl, hw, ha, rfl⟩)))

/-! ### The two readings of a command word -/

theorem runWord_of_decode {w : Word} {i : Instr} (s : State) (h : decode w = .ok i) : runWord w s = exec i s := by
  simp [runWord, h]

theorem runWord_of_illegal {w : Word} {e : DecodeError} (s : State) (h : decode w = .error e) :
    runWord w s = raise .other .illegalCommand s := by
  simp [runWord, h]

/-- The command an opcode and an operand decode to has that opcode and that operand (R72). -/
theorem opcode_operand_of_decodeOp {op imm : Byte} {i : Instr} (h : decodeOp op imm = .ok i) :
    i.opcode = op ∧ i.operand = imm := by
  have op_eq (n : Nat) (hop : op.toNat = n) : BitVec.ofNat 8 n = op := by simp [← hop]
  unfold decodeOp at h
  split at h
  all_goals rename_i hop
  case h_23 => cases h
  all_goals replace hop := op_eq _ hop
  -- The rows without an operand require IMM8 0; in every other row the operand is IMM8.
  case h_1 | h_2 | h_3 | h_5 | h_7 | h_9 | h_10 | h_12 | h_18 | h_20 | h_22 =>
    obtain ⟨rfl, rfl⟩ := (noOperand_eq_ok_iff _ _ _).1 h
    exact ⟨hop, rfl⟩
  all_goals
    cases h
    exact ⟨hop, by simp [Instr.operand]⟩

/-- A word that decodes is the word of its command (R72, R75). -/
theorem encode_of_decode {w : Word} {i : Instr} (h : decode w = .ok i) : encode i = w := by
  obtain ⟨hop, hrsv⟩ := (decode_eq_ok_iff w i).1 h
  obtain ⟨hopcode, hoperand⟩ := opcode_operand_of_decodeOp hop
  rw [encode, hopcode, hoperand, formC_fields w hrsv]

/-! ### Outcomes along the branches of a command -/

/-- The outcome is a next state that satisfies `P`. -/
def Gives (P : State → Prop) (r : Result) : Prop := ∃ t, r = .next t ∧ P t

theorem Gives.of_next {P : State → Prop} {r : Result} {t : State} (h : Gives P r) (hr : r = .next t) : P t := by
  obtain ⟨u, rfl, hu⟩ := h
  cases hr
  exact hu

theorem Gives.ite {P : State → Prop} {c : Prop} [Decidable c] {a b : Result} (ha : c → Gives P a)
    (hb : ¬ c → Gives P b) : Gives P (if c then a else b) := by
  split
  · exact ha ‹_›
  · exact hb ‹_›

theorem gives_succeed {P : State → Prop} {t : State} (h : P t.complete) : Gives P (succeed t) := ⟨_, rfl, h⟩

theorem gives_raise {P : State → Prop} {g : Group} {c : ErrCode} {s : State} (h : P ((s.abort g).recordError c)) :
    Gives P (raise g c s) := ⟨_, rfl, h⟩

end Sys2Proof.Machine
end

section
/-! PROOFS. RESULT after a command (O28), the fields of STATUS (O43), and that KEY, CV and BUF are not observable (O32)
(spec 10_state.md R23, R24, R35; 44_control.md R183). -/

namespace Sys2Proof.Machine

/-! ### RESULT -/

/-- A command's outcome leaves RESULT, or reports a failure. -/
def ResultKept (s t : State) : Prop := t.cerr = 0 → t.result = s.result

theorem resultKept_succeed {s t : State} (h : t.result = s.result) : Gives (ResultKept s) (succeed t) :=
  gives_succeed fun _ => h

theorem resultKept_raise {s : State} {g : Group} {c : ErrCode} (hc : c ≠ .ok) : Gives (ResultKept s) (raise g c s) :=
  gives_raise fun h => absurd ((code_eq_zero_iff c).1 h) hc

@[simp] theorem State.takeNibble_result (v : BitVec 4) (s : State) : (s.takeNibble v).result = s.result := by
  rcases takeNibble_cases v s with ⟨-, h⟩ | ⟨-, h⟩ <;> rw [h]

/-- A command that produces no value leaves RESULT unless it fails (R24). -/
theorem exec_resultKept (i : Instr) (s : State) (hi : writesResult i = false) : Gives (ResultKept s) (exec i s) := by
  have fails (g : Group) (c : ErrCode) (hc : c ≠ .ok := by decide) : Gives (ResultKept s) (raise g c s) :=
    resultKept_raise hc
  cases i with
  | nop => exact resultKept_succeed rfl
  | errClr => exact resultKept_succeed rfl
  | macClr => exact resultKept_succeed rfl
  | keyLd byte => exact .ite (fun _ => fails _ _) fun _ => .ite (fun _ => fails _ _) fun _ => resultKept_succeed rfl
  | macInit => exact .ite (fun _ => fails _ _) fun _ => .ite (fun _ => fails _ _) fun _ => resultKept_succeed rfl
  | macUpd byte =>
    exact .ite (fun _ => fails _ _) fun _ => .ite (fun _ => resultKept_succeed rfl) fun _ => resultKept_succeed rfl
  | expLd byte => exact .ite (fun _ => fails _ _) fun _ => resultKept_succeed rfl
  | bmClr => exact resultKept_succeed rfl
  | bmSet idx =>
    exact .ite (fun _ => fails _ _) fun _ => .ite (fun _ => resultKept_succeed rfl) fun _ => resultKept_succeed rfl
  | bmUnset idx => exact .ite (fun _ => fails _ _) fun _ => .ite (fun _ => fails _ _) fun _ => resultKept_succeed rfl
  | bmLdb => exact .ite (fun _ => fails _ _) fun _ => resultKept_succeed rfl
  | bmLdc char =>
    refine .ite (fun _ => fails _ _) fun _ => ?_
    cases hexval char with
    | none => exact fails _ _
    | some v => exact resultKept_succeed (s.takeNibble_result v)
  | bmLde => exact .ite (fun _ => fails _ _) fun _ => resultKept_succeed rfl
  | macFin | macChk | macRd | macRdh | bmTest | bmNext | bmRd | bmWlen | bmWrh => cases hi

/-- Settles O28: a success is followed along the command's branches, and every failure records RESULT 0. -/
theorem resultKeptOrZeroed : Obligations.ResultKeptOrZeroed := by
  intro i s t h
  refine ⟨fun hok hi => (exec_resultKept i s hi).of_next h hok, fun hfail => ?_⟩
  rcases exec_shape i s with ⟨c, -, -, hc⟩ | ⟨u, hu, -⟩
  · rw [hc, raise_eq] at h
    cases h
    rfl
  · rw [hu, succeed_eq] at h
    cases h
    exact absurd rfl hfail

/-! ### STATUS -/

/-- Settles O43: the fields of STATUS are cut off from the least significant end, each by its width; a counter's field
is wide enough for its range, so it holds the counter's value. -/
theorem statusFields : Obligations.StatusFields := by
  intro s
  have counter {n : Nat} (w : Nat) (c : Fin n) (hn : n ≤ 2 ^ w) : (BitVec.ofNat w c.val).toNat = c.val :=
    BitVec.toNat_ofNat .. |>.trans (Nat.mod_eq_of_lt (Nat.lt_of_lt_of_le c.isLt hn))
  refine ⟨?err, ?cerr, ?macAct, ?macValid, ?ldBusy, ?sec, ?keyCnt, ?bcnt, ?expCnt, ?ldCnt, ?zero⟩ <;>
    simp only [State.status, BitVec.extractLsb'_append_eq_of_le, BitVec.extractLsb'_append_eq_right,
      BitVec.getLsbD_append, Nat.reduceLeDiff, Nat.reduceSub, Nat.reduceLT, if_true, if_false, BitVec.getLsbD_ofBool,
      decide_true, Bool.true_and]
  case sec => rfl
  case keyCnt => exact counter 5 s.keyCnt (by decide)
  case bcnt => exact counter 3 s.bcnt (by decide)
  case expCnt => exact counter 4 s.expCnt (by decide)
  case ldCnt => exact counter 5 s.ldCnt (by decide)
  case zero => rfl

/-! ### KEY, CV and BUF -/

/-- Two outcomes are next states that differ at most in KEY, CV and BUF. -/
def Agree (r r' : Result) : Prop := ∃ s t, r = .next s ∧ r' = .next t ∧ SameButSecrets s t

theorem Agree.ite {c : Prop} [Decidable c] {a a' b b' : Result} (ha : Agree a a') (hb : Agree b b') :
    Agree (if c then a else b) (if c then a' else b') := by
  split
  · exact ha
  · exact hb

theorem agree_succeed {s t : State} (h : SameButSecrets s t) : Agree (succeed s) (succeed t) :=
  ⟨_, _, rfl, rfl, congrArg State.complete h⟩

theorem agree_succeedWith {s t : State} (v : Block) (h : SameButSecrets s t) :
    Agree (succeedWith v s) (succeedWith v t) := agree_succeed (congrArg (State.setResult v) h)

/-- A failure treats both states alike: its aborts write the secrets to 0, or leave them (R205, R206). -/
theorem agree_raise {s t : State} (g : Group) (c : ErrCode) (h : SameButSecrets s t) :
    Agree (raise g c s) (raise g c t) := by
  rw [h]
  cases g <;> exact ⟨_, _, rfl, rfl, rfl⟩

theorem takeNibble_sameButSecrets {s t : State} (v : BitVec 4) (h : SameButSecrets s t) :
    SameButSecrets (s.takeNibble v) (t.takeNibble v) := by
  rw [h]
  unfold State.takeNibble
  dsimp only
  split <;> rfl

/-- No command but MAC_FIN lets KEY, CV or BUF reach another register (R183). -/
theorem exec_agree {i : Instr} {s t : State} (h : SameButSecrets s t) (hi : i ≠ .macFin) :
    Agree (exec i s) (exec i t) := by
  have fails (g : Group) (c : ErrCode) := agree_raise g c h
  have value (v : Block) := agree_succeedWith v h
  have nibble (v : BitVec 4) := takeNibble_sameButSecrets v h
  obtain ⟨key, cv, buf, rfl⟩ : ∃ key cv buf, t = { s with key := key, cv := cv, buf := buf } := ⟨_, _, _, h⟩
  cases i with
  | macFin => exact absurd rfl hi
  | nop => exact agree_succeed rfl
  | errClr => exact agree_succeed rfl
  | macClr => exact agree_succeed rfl
  | keyLd byte => exact .ite (fails _ _) (.ite (fails _ _) (agree_succeed rfl))
  | macInit => exact .ite (fails _ _) (.ite (fails _ _) (agree_succeed rfl))
  | macUpd byte => exact .ite (fails _ _) (.ite (agree_succeed rfl) (agree_succeed rfl))
  | expLd byte => exact .ite (fails _ _) (agree_succeed rfl)
  | macChk => exact .ite (fails _ _) (.ite (fails _ _) (agree_succeed rfl))
  | macRd => exact .ite (fails _ _) (value _)
  | macRdh pos => exact .ite (fails _ _) (.ite (fails _ _) (value _))
  | bmClr => exact agree_succeed rfl
  | bmSet idx => exact .ite (fails _ _) (.ite (agree_succeed rfl) (agree_succeed rfl))
  | bmUnset idx => exact .ite (fails _ _) (.ite (fails _ _) (agree_succeed rfl))
  | bmTest idx => exact .ite (fails _ _) (value _)
  | bmNext start => exact value _
  | bmRd half => exact .ite (value _) (.ite (value _) (fails _ _))
  | bmWlen => exact value _
  | bmWrh pos => exact .ite (fails _ _) (value _)
  | bmLdb => exact .ite (fails _ _) (agree_succeed rfl)
  | bmLdc char =>
    refine .ite (fails _ _) ?_
    cases hexval char with
    | none => exact fails _ _
    | some v => exact agree_succeed (nibble v)
  | bmLde => exact .ite (fails _ _) (agree_succeed rfl)

theorem runWord_agree {w : Word} {s t : State} (h : SameButSecrets s t) (hw : w ≠ encode .macFin) :
    Agree (runWord w s) (runWord w t) := by
  cases hd : decode w with
  | error e =>
    rw [runWord_of_illegal s hd, runWord_of_illegal t hd]
    exact agree_raise _ _ h
  | ok i =>
    rw [runWord_of_decode s hd, runWord_of_decode t hd]
    refine exec_agree h fun hi => hw ?_
    rw [← hi, encode_of_decode hd]

/-- A step that does not run MAC_FIN treats two states that differ only in the secrets alike (R35). -/
theorem step_sameButSecrets {s t s' : State} (h : SameButSecrets s t)
    (hfin : ∀ rest, s.pending ≠ commandWrite (encode .macFin) :: rest) (hs : step s = .next s') :
    ∃ t', step t = .next t' ∧ SameButSecrets s' t' := by
  obtain ⟨key, cv, buf, rfl⟩ : ∃ key cv buf, t = { s with key := key, cv := cv, buf := buf } := ⟨_, _, _, h⟩
  rcases step_next_cases hs with ⟨hp, rfl⟩ | ⟨rest, hp, rfl⟩ | ⟨a, n, rest, hp, hw, rfl⟩ |
    ⟨a, n, w, rest, hp, hw, ha, rfl⟩ | ⟨w, rest, hp, hrun⟩
  · exact ⟨_, step_idle hp, rfl⟩
  · exact ⟨_, step_reset hp, rfl⟩
  · exact ⟨_, step_read hp hw, rfl⟩
  · exact ⟨_, step_ignoredWrite hp hw ha, rfl⟩
  · have hw : w ≠ encode .macFin := fun e => hfin rest (e ▸ hp)
    obtain ⟨u, t', hu, ht', hut⟩ := runWord_agree (s := { s with pending := rest })
      (t := { s with key := key, cv := cv, buf := buf, pending := rest }) rfl hw
    rw [hrun] at hu
    cases hu
    exact ⟨t', (step_commandWrite _ w rest (by exact hp)).trans ht', hut⟩

/-- Settles O32: a step keeps two states that differ only in the secrets so, and STATUS, RESULT and the returned words
are views of the registers they share. -/
theorem secretsUnreadable : Obligations.SecretsUnreadable := by
  intro s t s' h hfin hs
  obtain ⟨t', ht', hsame⟩ := step_sameButSecrets h hfin hs
  refine ⟨t', ht', hsame, ?_⟩
  rw [hsame]
  exact ⟨rfl, rfl, rfl⟩

end Sys2Proof.Machine
end

section
/-! PROOFS. The invariants of spec 10_state.md R36: at reset (O46) and through every step (O47). They are split by unit,
since a command writes one unit only: invariant 1 speaks of BM, 2 to 7 of the MAC engine, 8 and 9 of the loader. -/

namespace Sys2Proof.Machine

/-! ### The invariants by unit -/

/-- Invariant 1, of a bitmap: the secondary half is empty when it is not active. -/
def SecondaryEmpty (v : Bitmap) : Prop := fieldBit v 1 = false → ∀ i, 65 ≤ i → i ≤ 128 → fieldBit v i = false

/-- The bytes from number `k` on are 0. -/
def TailZero {n : Nat} (v : Vector Byte n) (k : Nat) : Prop := ∀ (j : Nat) (h : j < n), k ≤ j → v[j] = 0

/-- Invariants 2 to 7, of the MAC engine. -/
structure MacInv (s : State) : Prop where
  buf : TailZero s.buf s.bcnt.val
  key : TailZero s.key s.keyCnt.val
  exp : TailZero s.exp s.expCnt.val
  active : s.macAct = true → s.keyCnt.val = 16 ∧ s.macValid = false
  idle : s.macAct = false → s.cv = 0 ∧ (∀ (j : Nat) (h : j < 8), s.buf[j] = 0) ∧ s.bcnt.val = 0
  noMac : s.macValid = false → s.macr = 0

/-- Invariants 8 and 9, of the loader. -/
structure LoaderInv (s : State) : Prop where
  idle : s.ldBusy = false → s.ldCnt.val = 0 ∧ s.ldSr = 0
  busy : s.ldBusy = true →
    (∀ i, 4 * s.ldCnt.val + 1 ≤ i → i ≤ 128 → fieldBit s.ldSr i = false) ∧
      (16 ≤ s.ldCnt.val → fieldBit s.ldSr 1 = true)

theorem inv_iff (s : State) : Inv s ↔ SecondaryEmpty s.bm ∧ MacInv s ∧ LoaderInv s :=
  ⟨fun h => ⟨h.1, ⟨h.2, h.3, h.4, h.5, h.6, h.7⟩, ⟨h.8, h.9⟩⟩,
    fun ⟨hb, hm, hl⟩ => ⟨hb, hm.1, hm.2, hm.3, hm.4, hm.5, hm.6, hl.1, hl.2⟩⟩

theorem MacInv.of_sameMac {s t : State} (h : MacInv s) (e : SameMac s t) : MacInv t := by
  obtain ⟨hkey, hkeyCnt, hact, hcv, hbuf, hbcnt, hmacr, hvalid, hexp, hexpCnt⟩ := e
  refine ⟨?_, ?_, ?_, ?_, ?_, ?_⟩
  · simpa only [hbuf, hbcnt] using h.buf
  · simpa only [hkey, hkeyCnt] using h.key
  · simpa only [hexp, hexpCnt] using h.exp
  · simpa only [hact, hkeyCnt, hvalid] using h.active
  · simpa only [hact, hcv, hbuf, hbcnt] using h.idle
  · simpa only [hvalid, hmacr] using h.noMac

theorem LoaderInv.of_sameLoader {s t : State} (h : LoaderInv s) (e : SameLoader s t) : LoaderInv t := by
  obtain ⟨hbusy, hcnt, hsr⟩ := e
  refine ⟨?_, ?_⟩
  · simpa only [hbusy, hcnt, hsr] using h.idle
  · simpa only [hbusy, hcnt, hsr] using h.busy

/-- A change of the MAC engine only. -/
theorem Inv.of_macInv {s t : State} (h : Inv s) (hm : MacInv t) (hb : t.bm = s.bm) (hl : SameLoader s t) : Inv t := by
  obtain ⟨hbm, -, hload⟩ := (inv_iff s).1 h
  exact (inv_iff t).2 ⟨hb ▸ hbm, hm, hload.of_sameLoader hl⟩

/-- A change of the bitmap unit only. -/
theorem Inv.of_bitmapUnit {s t : State} (h : Inv s) (hb : SecondaryEmpty t.bm) (hl : LoaderInv t) (hm : SameMac s t) :
    Inv t :=
  (inv_iff t).2 ⟨hb, ((inv_iff s).1 h).2.1.of_sameMac hm, hl⟩


/-! ### Bytes behind a counter -/

theorem tailZero_replicate (n k : Nat) : TailZero (Vector.replicate n (0 : Byte)) k := by
  intro j hj _
  simp

/-- Appending a byte at the counter moves the tail by one. -/
theorem TailZero.append {n k : Nat} {v : Vector Byte n} (h : TailZero v k) (b : Byte) :
    TailZero (v.setIfInBounds k b) (k + 1) := by
  intro j hj hk
  rw [Vector.getElem_setIfInBounds hj, if_neg (by omega)]
  exact h j hj (by omega)

theorem TailZero.append_fin {n m : Nat} [NeZero m] {v : Vector Byte n} {k : Fin m} (h : TailZero v k.val) (b : Byte)
    (hk : k.val + 1 < m) : TailZero (v.setIfInBounds k.val b) (k + 1).val := by
  rw [Fin.val_add_one_of_lt' hk]
  exact h.append b

/-! ### The MAC engine -/

/-- ABORT_MAC needs no invariant before it (R206). -/
theorem abortMac_macInv (s : State) : MacInv s.abortMac where
  buf := tailZero_replicate 8 _
  key := tailZero_replicate 16 _
  exp := tailZero_replicate 8 _
  active h := by simp at h
  idle _ := by simp
  noMac _ := rfl

theorem appendKey_macInv {s : State} (h : MacInv s) (b : Byte) (hact : s.macAct = false) (hcnt : s.keyCnt.val ≠ 16) :
    MacInv (s.appendKey b) where
  buf := h.buf
  key := h.key.append_fin b (by omega)
  exp := h.exp
  active ha := absurd (hact.symm.trans ha) (by decide)
  idle := h.idle
  noMac := h.noMac

theorem openMac_macInv {s : State} (h : MacInv s) (hcnt : s.keyCnt.val = 16) : MacInv s.openMac where
  buf := tailZero_replicate 8 _
  key := h.key
  exp := h.exp
  active _ := ⟨hcnt, rfl⟩
  idle ha := by simp at ha
  noMac _ := rfl

/-- A full block leaves an empty buffer (R133). -/
theorem absorbBlock_macInv {s : State} (h : MacInv s) (b : Byte) (hact : s.macAct = true) :
    MacInv (s.putMessageByte b).absorbBlock where
  buf := tailZero_replicate 8 _
  key := h.key
  exp := h.exp
  active := h.active
  idle ha := absurd (hact.symm.trans ha) (by decide)
  noMac := h.noMac

theorem putMessageByte_macInv {s : State} (h : MacInv s) (b : Byte) (hact : s.macAct = true) (hcnt : s.bcnt ≠ 7) :
    MacInv { s.putMessageByte b with bcnt := s.bcnt + 1 } where
  buf := h.buf.append_fin b (by omega)
  key := h.key
  exp := h.exp
  active := h.active
  idle ha := absurd (hact.symm.trans ha) (by decide)
  noMac := h.noMac

theorem closeMac_macInv {s : State} (h : MacInv s) (mac : Block) : MacInv (s.closeMac mac) where
  buf := tailZero_replicate 8 _
  key := tailZero_replicate 16 _
  exp := h.exp
  active ha := by simp at ha
  idle _ := by simp
  noMac hv := by simp at hv

theorem appendExp_macInv {s : State} (h : MacInv s) (b : Byte) (hcnt : s.expCnt.val ≠ 8) : MacInv (s.appendExp b) where
  buf := h.buf
  key := h.key
  exp := h.exp.append_fin b (by omega)
  active := h.active
  idle := h.idle
  noMac := h.noMac

theorem clearExp_macInv {s : State} (h : MacInv s) : MacInv s.clearExp where
  buf := h.buf
  key := h.key
  exp := tailZero_replicate 8 _
  active := h.active
  idle := h.idle
  noMac := h.noMac

/-! ### BM -/

theorem secondaryEmpty_zero : SecondaryEmpty 0 := fun _ i _ _ => fieldBit_zero i

/-- With bit 1 set the secondary half is active. -/
theorem secondaryEmpty_putField_one (v : Bitmap) : SecondaryEmpty (putField v 1 true) := by
  intro h
  rw [fieldBit_putField v 1 1 true (by decide) (by decide)] at h
  cases h

/-- A primary field may be set (R103). -/
theorem SecondaryEmpty.putField_primary {v : Bitmap} (h : SecondaryEmpty v) {idx : Nat} (hidx : 1 ≤ idx ∧ idx ≤ 64) :
    SecondaryEmpty (putField v idx true) := by
  intro h1 i hi hi'
  rw [fieldBit_putField v idx 1 true (by omega) (by decide)] at h1
  rw [fieldBit_putField v idx i true (by omega) (by omega), if_neg (by omega)]
  split at h1
  · cases h1
  · exact h h1 i hi hi'

/-- A field may be cleared, bit 1 only while the secondary half is empty (R104). -/
theorem SecondaryEmpty.putField_false {v : Bitmap} (h : SecondaryEmpty v) {idx : Nat} (hidx : 1 ≤ idx ∧ idx ≤ 128)
    (huse : ¬ (idx = 1 ∧ secondaryInUse v)) : SecondaryEmpty (putField v idx false) := by
  intro h1 i hi hi'
  rw [fieldBit_putField v idx i false hidx (by omega)]
  rw [fieldBit_putField v idx 1 false hidx (by decide)] at h1
  split
  · rfl
  · by_cases hone : idx = 1
    · have hempty : secondaryInUse v = false := by simpa [hone] using huse
      exact (secondaryInUse_eq_false_iff v).1 hempty i hi hi'
    · rw [if_neg (Ne.symm hone)] at h1
      exact h h1 i hi hi'

/-! ### The loader -/

theorem abortLd_loaderInv (s : State) : LoaderInv s.abortLd where
  idle _ := ⟨rfl, rfl⟩
  busy h := by simp at h

theorem openLoad_loaderInv (s : State) : LoaderInv s.openLoad where
  idle h := by simp at h
  busy _ := ⟨fun i _ _ => fieldBit_zero i, fun h => absurd h (by simp)⟩

/-- A character leaves the fields after it as they were. -/
theorem fieldBit_putNibble_after {s : State} (h : LoaderInv s) (hbusy : s.ldBusy = true) (v : BitVec 4) {i : Nat}
    (hi : 4 * s.ldCnt.val + 5 ≤ i) (hi' : i ≤ 128) : fieldBit (putNibble s.ldSr s.ldCnt.val v) i = false := by
  rw [fieldBit_putNibble _ _ _ _ s.ldCnt.isLt (by omega), if_neg (by omega)]
  exact (h.busy hbusy).1 i (by omega) hi'

/-- A character after the first leaves field 1 as it was. -/
theorem fieldBit_putNibble_one {s : State} (v : BitVec 4) (hcnt : s.ldCnt.val ≠ 0) :
    fieldBit (putNibble s.ldSr s.ldCnt.val v) 1 = fieldBit s.ldSr 1 := by
  rw [fieldBit_putNibble _ _ _ _ s.ldCnt.isLt (by decide), if_neg (by omega)]

/-- What a load commits has an empty secondary half when it is not active: a primary bitmap ends at the 16th character,
and a load that went on past it has field 1 set (R112). -/
theorem putNibble_secondaryEmpty {s : State} (h : LoaderInv s) (hbusy : s.ldBusy = true) (v : BitVec 4)
    (hcommit : (s.ldCnt.val + 1 = 16 ∧ fieldBit (putNibble s.ldSr s.ldCnt.val v) 1 = false) ∨ s.ldCnt.val + 1 = 32) :
    SecondaryEmpty (putNibble s.ldSr s.ldCnt.val v) := by
  intro h1 i hi hi'
  rcases hcommit with ⟨hcnt, -⟩ | hcnt
  · exact fieldBit_putNibble_after h hbusy v (by omega) hi'
  · rw [fieldBit_putNibble_one v (by omega), (h.busy hbusy).2 (by omega)] at h1
    cases h1

/-- A load that goes on with a character more keeps its invariants (R112). -/
theorem putNibble_loaderInv {s : State} (h : LoaderInv s) (hbusy : s.ldBusy = true) (v : BitVec 4)
    (hopen : ¬ ((s.ldCnt.val + 1 = 16 ∧ fieldBit (putNibble s.ldSr s.ldCnt.val v) 1 = false) ∨ s.ldCnt.val + 1 = 32)) :
    LoaderInv { s with ldCnt := s.ldCnt + 1, ldSr := putNibble s.ldSr s.ldCnt.val v } := by
  obtain ⟨hprimary, hlast⟩ := not_or.1 hopen
  have hcnt : (s.ldCnt + 1).val = s.ldCnt.val + 1 := Fin.val_add_one_of_lt' (by omega)
  refine ⟨fun hidle => absurd (hbusy.symm.trans hidle) (by decide), fun _ => ⟨fun i hi hi' => ?_, fun h16 => ?_⟩⟩
  · exact fieldBit_putNibble_after h hbusy v (by simp only [hcnt] at hi; omega) hi'
  · simp only [hcnt] at h16
    by_cases h15 : s.ldCnt.val + 1 = 16
    · simpa [h15] using hprimary
    · exact (fieldBit_putNibble_one v (by omega)).trans ((h.busy hbusy).2 (by omega))

theorem takeNibble_inv {s : State} (h : Inv s) (hbusy : s.ldBusy = true) (v : BitVec 4) : Inv (s.takeNibble v) := by
  obtain ⟨hbm, hmac, hload⟩ := (inv_iff s).1 h
  rcases takeNibble_cases v s with ⟨hcommit, heq⟩ | ⟨hopen, heq⟩ <;> rw [heq]
  · exact (inv_iff _).2 ⟨putNibble_secondaryEmpty hload hbusy v hcommit, hmac.of_sameMac (by simp [SameMac]),
      (abortLd_loaderInv s).of_sameLoader (by simp [SameLoader])⟩
  · exact (inv_iff _).2 ⟨hbm, hmac.of_sameMac (by simp [SameMac]), putNibble_loaderInv hload hbusy v hopen⟩

/-! ### Outcomes -/

theorem Inv.complete {s : State} (h : Inv s) : Inv s.complete := { h with }

theorem Inv.recordError {s : State} (h : Inv s) (c : ErrCode) : Inv (s.recordError c) := { h with }

theorem Inv.setResult {s : State} (h : Inv s) (v : Block) : Inv (s.setResult v) := { h with }

theorem Inv.setBm {s : State} (h : Inv s) {v : Bitmap} (hv : SecondaryEmpty v) : Inv (s.setBm v) :=
  { h with secondaryEmpty := hv }

/-- The host's side of the window is no part of the invariants. -/
theorem Inv.setPort {s : State} (h : Inv s) (pending : List HostEvent) (responses : List Word) :
    Inv { s with pending := pending, responses := responses } := { h with }

theorem Inv.abort {s : State} (h : Inv s) (g : Group) : Inv (s.abort g) := by
  cases g with
  | mac => exact h.of_macInv (abortMac_macInv s) rfl ⟨rfl, rfl, rfl⟩
  | loader => exact h.of_bitmapUnit h.secondaryEmpty (abortLd_loaderInv s) (by simp [SameMac, State.abort])
  | other => exact h

theorem inv_raise {s : State} (h : Inv s) (g : Group) (c : ErrCode) : Gives Inv (raise g c s) :=
  gives_raise ((h.abort g).recordError c)

theorem inv_succeed {s : State} (h : Inv s) : Gives Inv (succeed s) := gives_succeed h.complete

theorem inv_succeedWith {s : State} (h : Inv s) (v : Block) : Gives Inv (succeedWith v s) :=
  inv_succeed (h.setResult v)

/-! ### Commands and steps -/

/-- Every command keeps the invariants: a failure by its aborts, a success by what it writes of its own unit. -/
theorem exec_inv (i : Instr) {s : State} (h : Inv s) : Gives Inv (exec i s) := by
  have fails (g : Group) (c : ErrCode) := inv_raise h g c
  have value (v : Block) := inv_succeedWith h v
  have bitmap {v : Bitmap} (hv : SecondaryEmpty v) := inv_succeed (h.setBm hv)
  have engine {t : State} (hm : MacInv t) (hb : t.bm = s.bm) (hl : SameLoader s t) := inv_succeed (h.of_macInv hm hb hl)
  obtain ⟨hbm, hmac, hload⟩ := (inv_iff s).1 h
  cases i with
  | nop => exact inv_succeed h
  | errClr => exact inv_succeed { h with }
  | macClr => exact engine (abortMac_macInv s) rfl ⟨rfl, rfl, rfl⟩
  | keyLd byte =>
    exact .ite (fun _ => fails _ _) fun hact => .ite (fun _ => fails _ _) fun hcnt =>
      engine (appendKey_macInv hmac byte (by simpa using hact) hcnt) rfl ⟨rfl, rfl, rfl⟩
  | macInit =>
    exact .ite (fun _ => fails _ _) fun _ => .ite (fun _ => fails _ _) fun hcnt =>
      engine (openMac_macInv hmac (not_not.1 hcnt)) rfl ⟨rfl, rfl, rfl⟩
  | macUpd byte =>
    refine .ite (fun _ => fails _ _) fun hact => ?_
    have hact : s.macAct = true := by simpa using hact
    exact .ite (fun _ => engine (absorbBlock_macInv hmac byte hact) rfl ⟨rfl, rfl, rfl⟩) fun hcnt =>
      engine (putMessageByte_macInv hmac byte hact hcnt) rfl ⟨rfl, rfl, rfl⟩
  | macFin =>
    exact .ite (fun _ => fails _ _) fun _ =>
      inv_succeedWith (h.of_macInv (closeMac_macInv hmac _) rfl ⟨rfl, rfl, rfl⟩) _
  | expLd byte =>
    exact .ite (fun _ => fails _ _) fun hcnt => engine (appendExp_macInv hmac byte hcnt) rfl ⟨rfl, rfl, rfl⟩
  | macChk =>
    exact .ite (fun _ => fails _ _) fun _ => .ite (fun _ => fails _ _) fun _ =>
      inv_succeedWith (h.of_macInv (clearExp_macInv hmac) rfl ⟨rfl, rfl, rfl⟩) _
  | macRd => exact .ite (fun _ => fails _ _) fun _ => value _
  | macRdh pos => exact .ite (fun _ => fails _ _) fun _ => .ite (fun _ => fails _ _) fun _ => value _
  | bmClr => exact bitmap secondaryEmpty_zero
  | bmSet idx =>
    refine .ite (fun _ => fails _ _) fun hidx => ?_
    obtain ⟨hlow, -⟩ := (validIdx_iff idx).1 (by simpa using hidx)
    exact .ite (fun _ => bitmap (secondaryEmpty_putField_one _)) fun hprimary =>
      bitmap (hbm.putField_primary ⟨hlow, Nat.le_of_not_gt hprimary⟩)
  | bmUnset idx =>
    exact .ite (fun _ => fails _ _) fun hidx => .ite (fun _ => fails _ _) fun huse =>
      bitmap (hbm.putField_false ((validIdx_iff idx).1 (by simpa using hidx)) huse)
  | bmTest idx => exact .ite (fun _ => fails _ _) fun _ => value _
  | bmNext start => exact value _
  | bmRd half => exact .ite (fun _ => value _) fun _ => .ite (fun _ => value _) fun _ => fails _ _
  | bmWlen => exact value _
  | bmWrh pos => exact .ite (fun _ => fails _ _) fun _ => value _
  | bmLdb =>
    exact .ite (fun _ => fails _ _) fun _ =>
      inv_succeed (h.of_bitmapUnit hbm (openLoad_loaderInv s) (by simp [SameMac]))
  | bmLdc char =>
    refine .ite (fun _ => fails _ _) fun hbusy => ?_
    cases hexval char with
    | none => exact fails _ _
    | some v => exact inv_succeed (takeNibble_inv h (by simpa using hbusy) v)
  | bmLde => exact .ite (fun _ => fails _ _) fun _ => inv_succeed h

theorem runWord_inv (w : Word) {s : State} (h : Inv s) : Gives Inv (runWord w s) := by
  cases hd : decode w with
  | error e => exact runWord_of_illegal s hd ▸ inv_raise h _ _
  | ok i => exact runWord_of_decode s hd ▸ exec_inv i h

/-- The registers at reset are those of an aborted MAC engine and an idle loader (R240). -/
theorem reset_inv : Inv State.reset :=
  (inv_iff _).2 ⟨secondaryEmpty_zero, (abortMac_macInv State.reset).of_sameMac (by simp [SameMac, State.reset]),
    (abortLd_loaderInv State.reset).of_sameLoader (by simp [SameLoader, State.reset])⟩

/-- Settles O46: the invariants hold at reset unit by unit, and code 0 is legal. -/
theorem resetInvariant : Obligations.ResetInvariant := ⟨reset_inv, by decide, by decide⟩

/-- Settles O47, by the event the step services: a command keeps the invariants, the platform's reset establishes them,
and every other access writes no register they speak of. -/
theorem stepKeepsInvariant : Obligations.StepKeepsInvariant := by
  intro s t h hs
  rcases step_next_cases hs with ⟨-, rfl⟩ | ⟨rest, -, rfl⟩ | ⟨a, n, rest, -, -, rfl⟩ | ⟨a, n, w, rest, -, -, -, rfl⟩ |
    ⟨w, rest, -, hrun⟩
  · exact h
  · exact reset_inv.setPort rest s.responses
  · exact h.setPort rest (s.readWindow a :: s.responses)
  · exact h.setPort rest s.responses
  · exact (runWord_inv w (h.setPort rest s.responses)).of_next hrun

end Sys2Proof.Machine
end

section
/-! PROOFS. The register window: what a read returns and a write to a read-only register leaves (O40), which accesses a
step refuses (O41), and which bus addresses reach the block (O42) (spec 20_memory.md R50 to R53, R63; 60_exceptions.md
R210). -/

namespace Sys2Proof.Machine

/-! ### The registers behind the offsets -/

theorem State.resultHi_toNat (s : State) : s.resultHi.toNat = s.result.toNat / 2 ^ 32 := by
  rw [State.resultHi, BitVec.extractLsb'_toNat, Nat.shiftRight_eq_div_pow, Nat.mod_eq_of_lt (by omega)]

theorem State.resultLo_toNat (s : State) : s.resultLo.toNat = s.result.toNat % 2 ^ 32 := by
  rw [State.resultLo, BitVec.extractLsb'_toNat, Nat.shiftRight_zero]

/-- The offsets of the four registers (R51). -/
theorem windowRefusal_of_register {a : Nat} (ha : a = 0x0 ∨ a = 0x4 ∨ a = 0x8 ∨ a = 0xC) :
    windowRefusal a 4 = none :=
  (windowRefusal_eq_none_iff a 4).2 ⟨by omega, rfl, by omega⟩

/-- Settles O40: the value each register's offset states is the one the window returns, and an accepted read or an
ignored write is a step of its own. -/
theorem windowAccesses : Obligations.WindowAccesses := by
  refine fun s rest => ⟨fun a v hp hv => ?read, fun a w hp ha => ?write⟩
  case read =>
    have hvalue : s.readWindow a = v := by
      rcases hv with ⟨rfl, rfl⟩ | ⟨rfl, rfl⟩ | ⟨rfl, hhi⟩ | ⟨rfl, hlo⟩
      · rfl
      · rfl
      · exact BitVec.eq_of_toNat_eq (s.resultHi_toNat.trans hhi.symm)
      · exact BitVec.eq_of_toNat_eq (s.resultLo_toNat.trans hlo.symm)
    rw [step_read hp (windowRefusal_of_register (by omega)), hvalue, State.respond]
  case write => exact step_ignoredWrite hp (windowRefusal_of_register (.inr ha)) (by omega)

/-! ### Refusals -/

/-- The two grounds of a refusal (R52, R63). -/
theorem windowRefusal_eq_some_iff (offset width : Nat) (r : Refusal) :
    windowRefusal offset width = some r ↔
      (16 ≤ offset ∧ r = .outsideWindow) ∨ (offset < 16 ∧ (width ≠ 4 ∨ offset % 4 ≠ 0) ∧ r = .busError) := by
  have hwindow : Config.windowBytes = 16 := rfl
  unfold windowRefusal
  split_ifs with hout hbus
  · have hin : ¬ offset < 16 := by omega
    simp [show 16 ≤ offset from hout, hin, eq_comm]
  · have hin : offset < 16 := by omega
    simp only [hin, Nat.not_le.2 hin, hbus, Option.some.injEq, true_and, false_and, false_or]
    exact eq_comm
  · have hin : offset < 16 := by omega
    simp [hin, Nat.not_le.2 hin, hbus]

/-- A command stops the machine on no path (R80, R204). -/
theorem exec_next (i : Instr) (s : State) : ∃ t, exec i s = .next t := by
  rcases exec_shape i s with ⟨c, -, -, h⟩ | ⟨t, h, -⟩
  · exact ⟨_, h.trans (raise_eq ..)⟩
  · exact ⟨_, h.trans (succeed_eq t)⟩

/-- No command word stops the machine, legal or not (R80). -/
theorem runWord_next (w : Word) (s : State) : ∃ t, runWord w s = .next t := by
  cases hd : decode w with
  | error e => exact ⟨_, runWord_of_illegal s hd⟩
  | ok i => exact runWord_of_decode s hd ▸ exec_next i s

/-- A write the window accepts does not stop the machine: it runs a command word, or is ignored (R51, R53). -/
theorem step_acceptedWrite {s : State} {a n : Nat} {w : Word} {rest : List HostEvent}
    (h : s.pending = .write a n w :: rest) (hw : windowRefusal a n = none) : ∃ t, step s = .next t := by
  by_cases ha : a = 0
  · obtain ⟨-, rfl, -⟩ := (windowRefusal_eq_none_iff a n).1 hw
    subst ha
    exact step_commandWrite s w rest h ▸ runWord_next w _
  · exact ⟨_, step_ignoredWrite h hw ha⟩

/-- The step of an access the window refuses (R52). -/
theorem step_refusedAccess {s : State} {a n : Nat} {rest : List HostEvent} {r : Refusal}
    (h : s.pending = .read a n :: rest ∨ ∃ w, s.pending = .write a n w :: rest) (hw : windowRefusal a n = some r) :
    step s = .refused r := by
  rcases h with h | ⟨w, h⟩ <;> simp [step, serviceNext, service, h, hw]

/-- A step goes on unless the window refuses the oldest pending access. -/
theorem step_next_or_refusedAccess (s : State) :
    (∃ t, step s = .next t) ∨
    ∃ a n rest r, (s.pending = .read a n :: rest ∨ ∃ w, s.pending = .write a n w :: rest) ∧
      windowRefusal a n = some r := by
  match hp : s.pending with
  | [] => exact .inl ⟨_, step_idle hp⟩
  | .reset :: rest => exact .inl ⟨_, step_reset hp⟩
  | .read a n :: rest =>
    cases hw : windowRefusal a n with
    | none => exact .inl ⟨_, step_read hp hw⟩
    | some r => exact .inr ⟨a, n, rest, r, .inl rfl, hw⟩
  | .write a n w :: rest =>
    cases hw : windowRefusal a n with
    | none => exact .inl (step_acceptedWrite hp hw)
    | some r => exact .inr ⟨a, n, rest, r, .inr ⟨w, rfl⟩, hw⟩

/-- A step is refused exactly by the window, with the window's name for it. -/
theorem step_eq_refused_iff (s : State) (r : Refusal) :
    step s = .refused r ↔
      ∃ a n rest, (s.pending = .read a n :: rest ∨ ∃ w, s.pending = .write a n w :: rest) ∧
        windowRefusal a n = some r := by
  constructor
  · intro h
    rcases step_next_or_refusedAccess s with ⟨t, ht⟩ | ⟨a, n, rest, r', hp, hw⟩
    · cases ht.symm.trans h
    · cases (step_refusedAccess hp hw).symm.trans h
      exact ⟨a, n, rest, hp, hw⟩
  · rintro ⟨a, n, rest, hp, hw⟩
    exact step_refusedAccess hp hw

/-- Settles O41: a fault has no constructor, and the steps the window refuses are the refused ones. -/
theorem stepRefusesExactly : Obligations.StepRefusesExactly := by
  intro s
  refine ⟨fun f => (nomatch f), fun r => ?_⟩
  simp only [step_eq_refused_iff, windowRefusal_eq_some_iff]

/-! ### Bus addresses -/

theorem windowOffset_base_add {a : Nat} (ha : a < 16) : windowOffset (Config.base + a) = some a := by
  have hin : Config.base ≤ Config.base + a ∧ Config.base + a < Config.base + Config.windowBytes :=
    ⟨Nat.le_add_right _ _, Nat.add_lt_add_left ha _⟩
  rw [windowOffset, if_pos hin, Nat.add_sub_cancel_left]

theorem windowOffset_eq_none {addr : Nat} (h : addr < Config.base ∨ Config.base + 16 ≤ addr) :
    windowOffset addr = none := by
  have hwindow : Config.windowBytes = 16 := rfl
  exact if_neg (by omega)

/-- Settles O42: an address has an offset exactly in the window, and an access without one leaves the block. -/
theorem windowDecode : Obligations.WindowDecode := by
  refine ⟨fun a ha => windowOffset_base_add ha, fun addr event s haddr => ?_⟩
  simp [State.busAccess, windowOffset_eq_none haddr]

end Sys2Proof.Machine
end

section
/-! PROOFS. The decoder and the encoder undo each other (O33, O34), the decodable words are the legal ones (O35), sample
words of the map (O36), and the step of a command word (O35, O38, O39) (spec 30_encoding.md R70 to R75, R80;
60_exceptions.md R205). -/

namespace Sys2Proof.Machine

/-! ### Decode and encode -/

/-- A number fits IMM8 exactly when the field's 8 bits keep its value (R71). -/
theorem fitsImm8_iff (n : Nat) : fitsImm8 n = true ↔ (BitVec.ofNat 8 n).toNat = n := by
  rw [fitsImm8, decide_eq_true_eq, BitVec.toNat_ofNat, Nat.mod_eq_iff_lt (by decide)]

/-- The opcode map gives back exactly the commands whose operand fits IMM8 (R72). -/
theorem wellFormed_iff_decodeOp (i : Instr) : i.wellFormed = true ↔ decodeOp i.opcode i.operand = .ok i := by
  cases i
  case macRdh n | bmSet n | bmUnset n | bmTest n | bmNext n | bmRd n | bmWrh n =>
    simp [Instr.wellFormed, Instr.opcode, Instr.operand, decodeOp, fitsImm8_iff]
  all_goals exact iff_of_true rfl rfl

theorem wellFormed_iff_decode_encode (i : Instr) : i.wellFormed = true ↔ decode (encode i) = .ok i := by
  rw [decode_eq_ok_iff, opField_encode, immField_encode, and_iff_left (rsvField_encode i), wellFormed_iff_decodeOp]

/-- Settles O33: the fields of the word are the command's opcode, its operand and a zero RSV, and the opcode map gives
the command back from them. -/
theorem decodeEncode : Obligations.DecodeEncode := fun i => (wellFormed_iff_decode_encode i).1

/-- Settles O34: the word is its command's, so that word decodes to the command, as only a well-formed one's does. -/
theorem encodeDecode : Obligations.EncodeDecode := by
  intro w i h
  have hw := encode_of_decode h
  exact ⟨hw, (wellFormed_iff_decode_encode i).2 (hw ▸ h)⟩

/-- Settles O36: each of the thirteen words is decoded. -/
theorem decodedWords : Obligations.DecodedWords := by
  unfold Obligations.DecodedWords
  decide

/-! ### The legal words -/

/-- The opcode lists do not overlap, so an opcode of the first is a command without operand's (R72). -/
theorem hasOperand_of_mem_bareOpcodes {i : Instr} (h : i.opcode ∈ bareOpcodes) : i.hasOperand = false := by
  have hdisjoint : ∀ op ∈ operandOpcodes, op ∉ bareOpcodes := by decide
  have hmem := opcode_mem i
  split at hmem
  · exact absurd h (hdisjoint _ hmem)
  · simp_all

/-- Every command's word meets the three conditions of R74. -/
theorem legal_encode (i : Instr) : Legal (encode i) := by
  rw [Legal, opField_encode, rsvField_encode, immField_encode]
  refine ⟨?_, rfl, fun hbare => operand_of_bare i (hasOperand_of_mem_bareOpcodes hbare)⟩
  have hmem := opcode_mem i
  split at hmem
  · exact .inr hmem
  · exact .inl hmem

theorem decodeOp_of_mem_bareOpcodes {op : Byte} (h : op ∈ bareOpcodes) : ∃ i, decodeOp op 0 = .ok i := by
  simp only [bareOpcodes, List.mem_cons, List.not_mem_nil, or_false] at h
  rcases h with rfl | rfl | rfl | rfl | rfl | rfl | rfl | rfl | rfl | rfl | rfl <;> exact ⟨_, rfl⟩

theorem decodeOp_of_mem_operandOpcodes {op : Byte} (h : op ∈ operandOpcodes) (imm : Byte) :
    ∃ i, decodeOp op imm = .ok i := by
  simp only [operandOpcodes, List.mem_cons, List.not_mem_nil, or_false] at h
  rcases h with rfl | rfl | rfl | rfl | rfl | rfl | rfl | rfl | rfl | rfl | rfl <;> exact ⟨_, rfl⟩

/-- The decoder accepts the words R74 calls legal, and no other. -/
theorem exists_decode_iff_legal (w : Word) : (∃ i, decode w = .ok i) ↔ Legal w := by
  constructor
  · rintro ⟨i, hi⟩
    exact encode_of_decode hi ▸ legal_encode i
  · rintro ⟨hmap, hrsv, himm⟩
    simp only [decode_eq_ok_iff, hrsv, and_true]
    rcases hmap with hbare | hop
    · exact himm hbare ▸ decodeOp_of_mem_bareOpcodes hbare
    · exact decodeOp_of_mem_operandOpcodes hop _

/-- An illegal word fails as a command of neither group, with ILLEGAL_COMMAND (R74, R205). -/
theorem runWord_of_not_legal {w : Word} (s : State) (hw : ¬ Legal w) :
    runWord w s = .next (plainFailure 0xA s) := by
  cases hd : decode w with
  | ok i => exact absurd ((exists_decode_iff_legal w).1 ⟨i, hd⟩) hw
  | error e => exact (runWord_of_illegal s hd).trans (raise_other _ s)

/-- Settles O35: the legal words are those that decode, and a step runs any other as a failure. -/
theorem legalWords : Obligations.LegalWords := fun w =>
  ⟨exists_decode_iff_legal w, fun hw s rest h =>
    (step_commandWrite s w rest h).trans (runWord_of_not_legal _ hw)⟩

/-! ### The step of a command word -/

/-- Settles O38: the step runs the word, and the word runs its command. -/
theorem stepRunsDecoded : Obligations.StepRunsDecoded := fun s w rest _ h hd =>
  (step_commandWrite s w rest h).trans (runWord_of_decode _ hd)

theorem State.abort_samePort (g : Group) (s : State) : SamePort s (s.abort g) := by
  cases g <;> exact ⟨rfl, rfl⟩

theorem raise_samePort (g : Group) (c : ErrCode) (s : State) : Gives (SamePort s) (raise g c s) :=
  gives_raise (State.abort_samePort g s)

/-- No command touches the host's side of the window (R80). -/
theorem exec_samePort (i : Instr) (s : State) : Gives (SamePort s) (exec i s) := by
  rcases exec_shape i s with ⟨c, -, -, h⟩ | ⟨t, h, -, -, hport⟩
  · exact h ▸ raise_samePort _ c s
  · exact h ▸ gives_succeed hport

theorem runWord_samePort (w : Word) (s : State) : Gives (SamePort s) (runWord w s) := by
  cases hd : decode w with
  | ok i => exact runWord_of_decode s hd ▸ exec_samePort i s
  | error e => exact runWord_of_illegal s hd ▸ raise_samePort _ _ s

/-- Settles O39: running any word answers a next state with the host's side as the step left it, without the serviced
write. -/
theorem stepTotalOnCommands : Obligations.StepTotalOnCommands := by
  intro s w rest h
  rw [step_commandWrite s w rest h]
  exact runWord_samePort w { s with pending := rest }

end Sys2Proof.Machine
end

section
/-! PROOFS. The assembler on the lines `MNEMONIC` and `MNEMONIC operand` (O37) (spec 30_encoding.md R72, R81). -/

namespace Sys2Proof.Machine.Asm

/-! ### Texts the line parser leaves whole -/

/-- A character that is no blank and begins neither a comment nor a character literal. -/
def isPlain (c : Char) : Bool := !isBlank c && c != ';' && c != '\''

/-- A nonempty text of plain characters. -/
structure IsToken (cs : List Char) : Prop where
  ne_nil : cs ≠ []
  plain : ∀ c ∈ cs, isPlain c = true

theorem isPlain_iff (c : Char) : isPlain c = true ↔ isBlank c = false ∧ c ≠ ';' ∧ c ≠ '\'' := by
  simp [isPlain, and_assoc]

section
variable {cs : List Char}

theorem IsToken.not_blank (h : IsToken cs) : ∀ c ∈ cs, isBlank c = false := fun c hc =>
  ((isPlain_iff c).1 (h.plain c hc)).1

theorem IsToken.not_comment (h : IsToken cs) : ∀ c ∈ cs, c ≠ ';' ∧ c ≠ '\'' := fun c hc =>
  ((isPlain_iff c).1 (h.plain c hc)).2

theorem stripComment_eq_self (h : ∀ c ∈ cs, c ≠ ';' ∧ c ≠ '\'') : stripComment cs = cs := by
  fun_induction stripComment cs <;> simp_all

/-- Trimming keeps a text that neither begins nor ends with a blank. -/
theorem trim_eq_self (hfirst : ∀ h : 0 < cs.length, isBlank cs[0] = false)
    (hlast : ∀ h : cs ≠ [], isBlank (cs.getLast h) = false) : trim cs = cs := by
  have hdrop : cs.dropWhile isBlank = cs := List.dropWhile_eq_self_iff.2 fun h => by simp [hfirst h]
  have hrdrop : cs.rdropWhile isBlank = cs := List.rdropWhile_eq_self_iff.2 fun h => by simp [hlast h]
  rw [trim, hdrop]
  exact hrdrop

theorem IsToken.trim_eq (h : IsToken cs) : trim cs = cs :=
  trim_eq_self (fun _ => h.not_blank _ (List.getElem_mem _)) (fun _ => h.not_blank _ (List.getLast_mem _))

theorem IsToken.trim_blank_cons (h : IsToken cs) : trim (' ' :: cs) = cs := h.trim_eq

end

/-! ### The two lines -/

section
variable {m operand : List Char} {op imm : Byte} {takes : Bool}

/-- A mnemonic alone is a whole line exactly where its row takes no operand (R81). -/
theorem assembleLine_mnemonic (hm : IsToken m)
    (hrow : mnemonicRows.lookup (String.ofList (m.map Char.toUpper)) = some (op, takes)) :
    assembleLine m = if takes then .error .missingOperand else .ok (some (formC op 0)) := by
  have hstrip : stripComment m = m := stripComment_eq_self hm.not_comment
  have htake : m.takeWhile (fun c => !isBlank c) = m :=
    List.takeWhile_eq_self_iff.2 fun c hc => by simp [hm.not_blank c hc]
  have hdrop : m.dropWhile (fun c => !isBlank c) = [] :=
    List.dropWhile_eq_nil_iff.2 fun c hc => by simp [hm.not_blank c hc]
  have hnil : trim [] = [] := rfl
  cases takes <;> simp [assembleLine, hstrip, hm.trim_eq, htake, hdrop, hnil, hrow, hm.ne_nil]

/-- A mnemonic with an operand is a line exactly where its row takes one (R81). -/
theorem assembleLine_mnemonic_operand (hm : IsToken m) (ho : IsToken operand)
    (hrow : mnemonicRows.lookup (String.ofList (m.map Char.toUpper)) = some (op, takes))
    (himm : operandValue operand = some imm) :
    assembleLine (m ++ ' ' :: operand) = if takes then .ok (some (formC op imm)) else .error .extraOperand := by
  have hstrip : stripComment (m ++ ' ' :: operand) = m ++ ' ' :: operand :=
    stripComment_eq_self <| List.forall_mem_append.2
      ⟨hm.not_comment, List.forall_mem_cons.2 ⟨by decide, ho.not_comment⟩⟩
  have htrim : trim (m ++ ' ' :: operand) = m ++ ' ' :: operand := by
    refine trim_eq_self (fun _ => ?first) (fun _ => ?last)
    case first =>
      rw [List.getElem_append_left (List.length_pos_iff.2 hm.ne_nil)]
      exact hm.not_blank _ (List.getElem_mem _)
    case last =>
      rw [List.getLast_append_of_ne_nil _ (by simp), List.getLast_cons ho.ne_nil]
      exact ho.not_blank _ (List.getLast_mem _)
  have hword : ∀ c ∈ m, (!isBlank c) = true := fun c hc => by simp [hm.not_blank c hc]
  have hblank : isBlank ' ' = true := by decide
  have htake : (m ++ ' ' :: operand).takeWhile (fun c => !isBlank c) = m := by
    simp [List.takeWhile_append_of_pos hword, hblank]
  have hdrop : (m ++ ' ' :: operand).dropWhile (fun c => !isBlank c) = ' ' :: operand := by
    simp [List.dropWhile_append_of_pos hword, hblank]
  cases takes <;> simp [assembleLine, hstrip, htrim, htake, hdrop, hrow, ho.ne_nil, ho.trim_blank_cons, himm]

end

/-! ### The rows of the map -/

theorem isToken_of_row {row : String × Byte × Bool} (hrow : row ∈ mnemonicRows) : IsToken row.1.toList := by
  have hrows : ∀ row ∈ mnemonicRows, row.1.toList ≠ [] ∧ ∀ c ∈ row.1.toList, isPlain c = true := by
    simp [mnemonicRows, isPlain, isBlank]
  obtain ⟨hne, hplain⟩ := hrows row hrow
  exact ⟨hne, hplain⟩

/-- The names of the map are in upper case, so the case-insensitive search is for the name itself (R81). -/
theorem toUpper_of_row {row : String × Byte × Bool} (hrow : row ∈ mnemonicRows) :
    String.ofList (row.1.toList.map Char.toUpper) = row.1 := by
  revert row
  simp [mnemonicRows]

/-- The names of the map differ, so a search finds the row itself (R72). -/
theorem lookup_of_row {row : String × Byte × Bool} (hrow : row ∈ mnemonicRows) :
    mnemonicRows.lookup (String.ofList (row.1.toList.map Char.toUpper)) = some row.2 := by
  rw [toUpper_of_row hrow]
  revert row
  decide

/-! ### The operand in hex -/

/-- A byte in hex: two digits after `0x` (R81). -/
def hexText (imm : Byte) : List Char :=
  ['0', 'x', Char.ofNat (hexchar (imm.extractLsb' 4 4)).toNat, Char.ofNat (hexchar (imm.extractLsb' 0 4)).toNat]

theorem isPlain_hexDigit (v : BitVec 4) : isPlain (Char.ofNat (hexchar v).toNat) = true := by
  revert v
  decide

theorem digitValue_hexDigit (v : BitVec 4) : digitValue 16 (Char.ofNat (hexchar v).toNat) = some v.toNat := by
  revert v
  decide

theorem isToken_hexText (imm : Byte) : IsToken (hexText imm) where
  ne_nil := by simp [hexText]
  plain := by simp [hexText, isPlain_hexDigit, show isPlain '0' = true by decide, show isPlain 'x' = true by decide]

/-- The assembler reads a byte's hex text as that byte: the two digits make up its value (R81). -/
theorem operandValue_hexText (imm : Byte) : operandValue (hexText imm) = some imm := by
  have hvalue : (imm.extractLsb' 4 4).toNat * 16 + (imm.extractLsb' 0 4).toNat = imm.toNat := by
    simp only [BitVec.extractLsb'_toNat, Nat.shiftRight_eq_div_pow]
    omega
  have hle : imm.toNat ≤ 255 := Nat.le_of_lt_succ imm.isLt
  simp [operandValue, hexText, number, digitValue_hexDigit, hvalue, hle, -BitVec.extractLsb'_toNat]

theorem formC_zero (op : Byte) : formC op 0 = op.setWidth 32 <<< 24 := by
  simp [formC]

/-- Settles O37: each row's name and a byte's hex text are texts the parser leaves whole, the name finds its row, and
the operand's text its byte. -/
theorem assembledOperands : Obligations.AssembledOperands := by
  intro row hrow imm
  have hname := assembleLine_mnemonic (isToken_of_row hrow) (lookup_of_row hrow)
  have hline := assembleLine_mnemonic_operand (isToken_of_row hrow) (isToken_hexText imm) (lookup_of_row hrow)
    (operandValue_hexText imm)
  rw [formC_zero] at hname
  refine ⟨fun htakes => ?operand, fun htakes => ?bare⟩
  all_goals rw [htakes] at hname hline
  case operand => exact ⟨hline, hname⟩
  case bare => exact ⟨hname, hline⟩

end Sys2Proof.Machine.Asm
end

section
/-! PROOFS. The commands that write or query fields of BM, BM_CLR (O12), BM_SET (O13), BM_UNSET (O14) and BM_TEST (O15),
the wire length (O19), and what a set above 64 does to it (O21) (spec 41_bitmap.md R102 to R105, R108, R115). -/

namespace Sys2Proof.Machine

/-! ### Fields written -/

theorem validIdx_eq_false_iff (i : Nat) : validIdx i = false ↔ i = 0 ∨ 129 ≤ i := by
  rw [← Bool.not_eq_true, validIdx_iff]
  omega

theorem fieldBit_putField_true (v : Bitmap) {i j : Nat} (hi : 1 ≤ i ∧ i ≤ 128) (hj : 1 ≤ j ∧ j ≤ 128) :
    fieldBit (putField v i true) j = (fieldBit v j || decide (j = i)) := by
  rw [fieldBit_putField v i j true hi hj]
  by_cases h : j = i <;> simp [h]

theorem fieldBit_putField_false (v : Bitmap) {i j : Nat} (hi : 1 ≤ i ∧ i ≤ 128) (hj : 1 ≤ j ∧ j ≤ 128) :
    fieldBit (putField v i false) j = (fieldBit v j && !decide (j = i)) := by
  rw [fieldBit_putField v i j false hi hj]
  by_cases h : j = i <;> simp [h]

section
variable {idx : Nat} {s : State}

/-! ### BM_SET -/

theorem exec_bmSet_of_invalid (h : idx = 0 ∨ 129 ≤ idx) :
    exec (.bmSet idx) s = .next (plainFailure 0x9 s) := by
  simp [exec, execBmSet, (validIdx_eq_false_iff idx).2 h, raise_other, ErrCode.code]

theorem exec_bmSet_primary (h : 1 ≤ idx ∧ idx ≤ 64) :
    exec (.bmSet idx) s = succeed (s.setBm (putField s.bm idx true)) := by
  simp [exec, execBmSet, (validIdx_iff idx).2 (by omega), Config.primaryFields, Nat.not_lt.2 h.2]

theorem exec_bmSet_secondary (h : 64 < idx ∧ idx ≤ 128) :
    exec (.bmSet idx) s = succeed (s.setBm (putField (putField s.bm idx true) 1 true)) := by
  simp [exec, execBmSet, (validIdx_iff idx).2 (by omega), Config.primaryFields, h.1]

/-- A set makes its field present, and bit 1 too for an index above 64 (R103). -/
theorem exec_bmSet_fields (h : 1 ≤ idx ∧ idx ≤ 128) :
    ∃ v, exec (.bmSet idx) s = succeed (s.setBm v) ∧ ∀ i, 1 ≤ i → i ≤ 128 →
      fieldBit v i = (fieldBit s.bm i || decide (i = idx) || decide (i = 1 ∧ 64 < idx)) := by
  by_cases hhigh : 64 < idx
  · refine ⟨_, exec_bmSet_secondary ⟨hhigh, h.2⟩, fun i hi hi' => ?_⟩
    rw [fieldBit_putField_true _ (by decide) ⟨hi, hi'⟩, fieldBit_putField_true _ h ⟨hi, hi'⟩]
    simp [hhigh]
  · refine ⟨_, exec_bmSet_primary ⟨h.1, Nat.le_of_not_lt hhigh⟩, fun i hi hi' => ?_⟩
    rw [fieldBit_putField_true _ h ⟨hi, hi'⟩]
    simp [hhigh]

/-! ### BM_UNSET -/

theorem exec_bmUnset_of_invalid (h : idx = 0 ∨ 129 ≤ idx) :
    exec (.bmUnset idx) s = .next (plainFailure 0x9 s) := by
  simp [exec, execBmUnset, (validIdx_eq_false_iff idx).2 h, raise_other, ErrCode.code]

theorem exec_bmUnset_one_of_inUse (h : secondaryInUse s.bm = true) :
    exec (.bmUnset 1) s = .next (plainFailure 0xC s) := by
  simp [exec, execBmUnset, (validIdx_iff 1).2 (by decide), h, raise_other, ErrCode.code]

theorem exec_bmUnset (h : 1 ≤ idx ∧ idx ≤ 128) (huse : idx = 1 → secondaryInUse s.bm = false) :
    exec (.bmUnset idx) s = succeed (s.setBm (putField s.bm idx false)) := by
  have hguard : ¬ (idx = 1 ∧ secondaryInUse s.bm = true) := fun ⟨h1, h2⟩ => by simp [huse h1] at h2
  simp [exec, execBmUnset, (validIdx_iff idx).2 h, hguard]

/-- The guard of BM_UNSET 1 is on exactly when a field of 65..128 is present (R104). -/
theorem secondaryInUse_eq_true_iff (v : Bitmap) :
    secondaryInUse v = true ↔ ∃ i, 65 ≤ i ∧ i ≤ 128 ∧ fieldBit v i = true := by
  rw [← Bool.not_eq_false, secondaryInUse_eq_false_iff]
  simp

/-! ### BM_TEST -/

theorem exec_bmTest_of_invalid (h : idx = 0 ∨ 129 ≤ idx) :
    exec (.bmTest idx) s = .next (plainFailure 0x9 s) := by
  simp [exec, execBmTest, (validIdx_eq_false_iff idx).2 h, raise_other, ErrCode.code]

theorem exec_bmTest (h : 1 ≤ idx ∧ idx ≤ 128) :
    exec (.bmTest idx) s = succeedWith (if fieldBit s.bm idx then 1 else 0) s := by
  cases hbit : fieldBit s.bm idx <;> simp [exec, execBmTest, (validIdx_iff idx).2 h, hbit]

end

/-! ### BM_WLEN -/

/-- The wire length, by bit 1 (R100). -/
theorem State.wlen_eq (s : State) : s.wlen = if fieldBit s.bm 1 then 32 else 16 := by
  cases h : fieldBit s.bm 1 <;> simp [State.wlen, State.activeWidth, State.sec, h]

theorem exec_bmWlen (s : State) : exec .bmWlen s = succeedWith (if fieldBit s.bm 1 then 32 else 16) s := by
  simp only [exec, execBmWlen, s.wlen_eq]
  split <;> rfl

/-! ### The statements -/

/-- Settles O12: BM_CLR writes the bitmap without fields. -/
theorem bmClrResult : Obligations.BmClrResult := fun _ =>
  ⟨_, rfl, fun i _ _ => fieldBit_zero i, fieldBit_zero 1, rfl⟩

/-- Settles O13, by the index: outside 1..128, or a set of one or two fields. -/
theorem bmSetResult : Obligations.BmSetResult := by
  refine fun idx s => ⟨exec_bmSet_of_invalid, fun hlow hhigh => ?_⟩
  obtain ⟨v, hexec, hfields⟩ := exec_bmSet_fields (s := s) ⟨hlow, hhigh⟩
  exact ⟨_, hexec, hfields, rfl⟩

/-- Settles O14, by the index and the guard of bit 1. -/
theorem bmUnsetResult : Obligations.BmUnsetResult := by
  refine fun idx s => ⟨exec_bmUnset_of_invalid, fun hone hpresent => ?guarded, fun hlow hhigh hempty => ?cleared⟩
  case guarded =>
    subst hone
    exact exec_bmUnset_one_of_inUse ((secondaryInUse_eq_true_iff s.bm).2 hpresent)
  case cleared =>
    have huse := fun hone => (secondaryInUse_eq_false_iff s.bm).2 (hempty hone)
    exact ⟨_, exec_bmUnset ⟨hlow, hhigh⟩ huse,
      fun i hi hi' => fieldBit_putField_false s.bm ⟨hlow, hhigh⟩ ⟨hi, hi'⟩, rfl⟩

/-- Settles O15, by the index. -/
theorem bmTestResult : Obligations.BmTestResult := fun _ _ =>
  ⟨exec_bmTest_of_invalid, fun hlow hhigh => exec_bmTest ⟨hlow, hhigh⟩⟩

/-- Settles O19: the wire length is read from bit 1. -/
theorem bmWlenResult : Obligations.BmWlenResult := exec_bmWlen

/-- Settles O21: the set leaves bit 1 and its field present, which BM_WLEN and BM_TEST then read. -/
theorem secondaryActivation : Obligations.SecondaryActivation := by
  intro idx s hlow hhigh
  have hvalid : 1 ≤ idx ∧ idx ≤ 128 := by omega
  obtain ⟨v, hexec, hfields⟩ := exec_bmSet_fields (s := s) hvalid
  have hone : fieldBit v 1 = true := by simp [hfields 1 (by decide) (by decide), hlow]
  have hidx : fieldBit v idx = true := by simp [hfields idx hvalid.1 hvalid.2]
  exact ⟨_, _, _, hexec, hone, exec_bmWlen _, if_pos hone, exec_bmTest hvalid, if_pos hidx⟩

end Sys2Proof.Machine
end

section
/-! PROOFS. The readers of BM: BM_NEXT (O16) and the host's loop over it (O17), BM_RD (O18) and BM_WRH (O20) (spec
41_bitmap.md R101, R106, R107, R109). -/

namespace Sys2Proof.Machine

/-! ### BM_NEXT -/

theorem exec_bmNext_of_none {start : Nat} {s : State} (h : nextField s.bm (max start 1) = none) :
    exec (.bmNext start) s = succeedWith 0 s := by
  simp [exec, execBmNext, iterationStart, h, zext64]

theorem exec_bmNext_of_some {start j : Nat} {s : State} (h : nextField s.bm (max start 1) = some j) :
    exec (.bmNext start) s = succeedWith (zext64 j) s := by
  simp [exec, execBmNext, iterationStart, h]

/-- RESULT holds an index as it is (R71). -/
theorem zext64_toNat {j : Nat} (h : j ≤ 128) : (zext64 j).toNat = j :=
  BitVec.toNat_ofNat .. |>.trans (Nat.mod_eq_of_lt (by omega))

/-- Settles O16, by what the search finds. -/
theorem bmNextResult : Obligations.BmNextResult := by
  intro start s
  cases hnext : nextField s.bm (max start 1) with
  | none =>
    refine ⟨_, exec_bmNext_of_none hnext, rfl, fun _ => rfl, fun j hj hj' hbit _ => ?_⟩
    simp [(nextField_eq_none_iff ..).1 hnext j hj hj'] at hbit
  | some k =>
    obtain ⟨hbit, hk, hk', -⟩ := (nextField_eq_some_iff ..).1 hnext
    refine ⟨_, exec_bmNext_of_some hnext, rfl, fun hnone => ?_, fun j hj hj' hjbit hleast => ?_⟩
    · simp [hnone k hk hk'] at hbit
    · have hsome := (nextField_eq_some_iff ..).2 ⟨hjbit, hj, hj', hleast⟩
      cases hnext.symm.trans hsome
      exact zext64_toNat hj'

/-! ### The iteration loop -/

/-- The present indices from `start` on, in ascending order. -/
def presentFrom (v : Bitmap) (start : Nat) : List Nat := (List.range' start (129 - start)).filter (fieldBit v)

theorem presentFrom_of_none {v : Bitmap} {start : Nat} (h : nextField v start = none) : presentFrom v start = [] := by
  rw [presentFrom, List.filter_eq_nil_iff]
  intro i hi
  rw [List.mem_range'_1] at hi
  simp [(nextField_eq_none_iff ..).1 h i hi.1 (by omega)]

/-- The first present index is the one BM_NEXT finds, and the others follow it. -/
theorem presentFrom_of_some {v : Bitmap} {start j : Nat} (h : nextField v start = some j) :
    presentFrom v start = j :: presentFrom v (j + 1) := by
  obtain ⟨hbit, hj, hj', hleast⟩ := (nextField_eq_some_iff ..).1 h
  obtain ⟨d, rfl⟩ := Nat.exists_eq_add_of_le hj
  have habsent : (List.range' start d).filter (fieldBit v) = [] := by
    rw [List.filter_eq_nil_iff]
    intro i hi
    rw [List.mem_range'_1] at hi
    simp [hleast i hi.1 hi.2]
  have hlength : 129 - start = d + (129 - (start + d + 1) + 1) := by omega
  rw [presentFrom, hlength, ← List.range'_append_1, List.filter_append, habsent, List.nil_append, List.range'_succ,
    List.filter_cons_of_pos hbit, presentFrom]

theorem iterateLoop_succ_of_none {fuel start : Nat} {s : State} (h : nextField s.bm (max start 1) = none) :
    iterateLoop (fuel + 1) start s = [] := by
  simp [iterateLoop, exec_bmNext_of_none h, succeedWith_eq]

/-- A turn of the loop that finds a field yields it, and goes on behind it unless it is the last one (R106). -/
theorem iterateLoop_succ_of_some {fuel start j : Nat} {s : State} (h : nextField s.bm (max start 1) = some j) :
    iterateLoop (fuel + 1) start s =
      if j = 128 then [128] else j :: iterateLoop fuel (j + 1) (s.setResult (zext64 j)).complete := by
  obtain ⟨-, hj, hj', -⟩ := (nextField_eq_some_iff ..).1 h
  have hne : j ≠ 0 := by omega
  simp [iterateLoop, exec_bmNext_of_some h, succeedWith_eq, zext64_toNat hj', hne]

/-- From any start in 1..128 the loop yields the present indices from there on, given a command for each index. -/
theorem iterateLoop_eq_presentFrom (fuel start : Nat) (s : State) (hstart : max start 1 ≤ 128)
    (hfuel : 129 ≤ max start 1 + fuel) : iterateLoop fuel start s = presentFrom s.bm (max start 1) := by
  induction fuel generalizing start s with
  | zero => omega
  | succ fuel ih =>
    cases hnext : nextField s.bm (max start 1) with
    | none => rw [iterateLoop_succ_of_none hnext, presentFrom_of_none hnext]
    | some j =>
      obtain ⟨-, hj, hj', -⟩ := (nextField_eq_some_iff ..).1 hnext
      have hmax : max (j + 1) 1 = j + 1 := Nat.max_eq_left (Nat.le_add_left 1 j)
      rw [iterateLoop_succ_of_some hnext, presentFrom_of_some hnext]
      split
      case isTrue hlast => rw [hlast]; rfl
      case isFalse hmore => rw [ih (j + 1) _ (by omega) (by omega), hmax]; rfl

/-- Settles O17: the loop from 0 on yields the present indices of 1..128, and 128 commands suffice. -/
theorem iterationYieldsFields : Obligations.IterationYieldsFields := fun s fuel hfuel =>
  iterateLoop_eq_presentFrom fuel 0 s (by decide) (by omega)

/-! ### BM_RD -/

/-- Settles O18, by the half. -/
theorem bmRdResult : Obligations.BmRdResult := by
  refine fun half s => ⟨fun hout => ?_, fun hin => ?_⟩
  · have h0 : half ≠ 0 := by omega
    have h1 : half ≠ 1 := by omega
    simp [exec, execBmRd, h0, h1, raise_other, ErrCode.code]
  · obtain rfl | rfl : half = 0 ∨ half = 1 := by omega
    · refine ⟨_, rfl, fun i hi hi' => ?_, rfl⟩
      rw [Nat.mul_zero, Nat.zero_add]
      exact primaryHalf_bit s.bm i ⟨hi, hi'⟩
    · exact ⟨_, rfl, fun i hi hi' => secondaryHalf_bit s.bm i ⟨hi, hi'⟩, rfl⟩

/-! ### BM_WRH -/

/-- The digit of wire character `n`: fields `4n+1..4n+4`, the first the most significant (R101). -/
def wireDigit (v : Bitmap) (n : Nat) : BitVec 4 := v.extractLsb' (124 - 4 * n) 4

theorem wireChar_eq (v : Bitmap) (n : Nat) : wireChar v n = hexchar (wireDigit v n) := rfl

theorem wireDigit_getLsbD (v : Bitmap) {n k : Nat} (hn : n < 32) (hk : k < 4) :
    (wireDigit v n).getLsbD k = fieldBit v (4 * n + 4 - k) := by
  rw [wireDigit, BitVec.getLsbD_extractLsb', fieldBit, Config.fields]
  simp [hk, show 124 - 4 * n + k = 128 - (4 * n + 4 - k) by omega]

/-- The value of four bits. -/
theorem toNat_eq_bits (d : BitVec 4) :
    d.toNat = (d.getLsbD 3).toNat * 8 + (d.getLsbD 2).toNat * 4 + (d.getLsbD 1).toNat * 2 + (d.getLsbD 0).toNat := by
  revert d
  decide

/-- The value of a wire digit, by its fields (R101). -/
theorem wireDigit_toNat (v : Bitmap) {n : Nat} (hn : n < 32) :
    (wireDigit v n).toNat = (fieldBit v (4 * n + 1)).toNat * 8 + (fieldBit v (4 * n + 2)).toNat * 4 +
      (fieldBit v (4 * n + 3)).toNat * 2 + (fieldBit v (4 * n + 4)).toNat := by
  have hbit (k : Nat) (hk : k < 4) := wireDigit_getLsbD v hn hk
  rw [toNat_eq_bits, hbit 3 (by decide), hbit 2 (by decide), hbit 1 (by decide), hbit 0 (by decide)]
  rfl

theorem State.wlen_le (s : State) : s.wlen ≤ 32 := by
  rw [s.wlen_eq]
  split <;> decide

/-- Settles O20: a position before the wire length names a character of BM, and its digit is made of four fields. -/
theorem bmWrhResult : Obligations.BmWrhResult := by
  intro pos s
  rw [← s.wlen_eq]
  refine ⟨fun hout => ?_, fun hin => ?_⟩
  · simp [exec, execBmWrh, hout, raise_other, ErrCode.code]
  · have hexec : exec (.bmWrh pos) s = succeedWith ((wireChar s.bm pos).setWidth 64) s := if_neg (Nat.not_le.2 hin)
    have hpos : pos < 32 := Nat.lt_of_lt_of_le hin s.wlen_le
    refine ⟨_, _, hexec, rfl, ?_, rfl⟩
    rw [← wireDigit_toNat s.bm hpos, ← hexchar_toNat, ← wireChar_eq]
    exact BitVec.toNat_setWidth_of_le (by decide)

end Sys2Proof.Machine
end

section
/-! PROOFS. The loader's commands: BM_LDB (O22), BM_LDC (O23) and BM_LDE (O24) (spec 41_bitmap.md R111 to R113). -/

namespace Sys2Proof.Machine

section
variable {s : State} {c : Byte}

/-! ### BM_LDB and BM_LDE -/

theorem exec_bmLdb_of_busy (h : s.ldBusy = true) : exec .bmLdb s = .next (loaderFailure 0xB s) := if_pos h

theorem exec_bmLdb_of_idle (h : s.ldBusy = false) : exec .bmLdb s = succeed s.openLoad := by
  simp [exec, execBmLdb, h]

theorem exec_bmLde_of_busy (h : s.ldBusy = true) : exec .bmLde s = .next (loaderFailure 0x2 s) := if_pos h

theorem exec_bmLde_of_idle (h : s.ldBusy = false) : exec .bmLde s = succeed s := by
  simp [exec, execBmLde, h]

/-! ### BM_LDC -/

theorem exec_bmLdc_of_idle (h : s.ldBusy = false) : exec (.bmLdc c) s = .next (loaderFailure 0xB s) := by
  simp [exec, execBmLdc, h, raise_loader, ErrCode.code]

theorem exec_bmLdc_of_noDigit (h : s.ldBusy = true) (hc : hexval c = none) :
    exec (.bmLdc c) s = .next (loaderFailure 0x2 s) := by
  simp [exec, execBmLdc, h, hc, raise_loader, ErrCode.code]

theorem exec_bmLdc_of_digit {v : BitVec 4} (h : s.ldBusy = true) (hc : hexval c = some v) :
    exec (.bmLdc c) s = succeed (s.takeNibble v) := by
  simp [exec, execBmLdc, h, hc]

end

/-! ### The hexadecimal digits -/

/-- The characters that are no digit (R13). -/
theorem hexval_eq_none {c : Byte} (h : ¬ ((0x30 ≤ c.toNat ∧ c.toNat ≤ 0x39) ∨ (0x41 ≤ c.toNat ∧ c.toNat ≤ 0x46) ∨
    (0x61 ≤ c.toNat ∧ c.toNat ≤ 0x66))) : hexval c = none := by
  obtain ⟨hdecimal, hletters⟩ := not_or.1 h
  obtain ⟨hupper, hlower⟩ := not_or.1 hletters
  rw [hexval, if_neg hdecimal, if_neg hupper, if_neg hlower]

/-- The values of the digits, in either case (R13). -/
theorem hexval_eq_some {c : Byte} {v : Nat} (h : (0x30 ≤ c.toNat ∧ c.toNat ≤ 0x39 ∧ v = c.toNat - 0x30) ∨
    (0x41 ≤ c.toNat ∧ c.toNat ≤ 0x46 ∧ v = c.toNat - 0x41 + 10) ∨
    (0x61 ≤ c.toNat ∧ c.toNat ≤ 0x66 ∧ v = c.toNat - 0x61 + 10)) : hexval c = some (BitVec.ofNat 4 v) := by
  rcases h with ⟨hlow, hhigh, rfl⟩ | ⟨hlow, hhigh, rfl⟩ | ⟨hlow, hhigh, rfl⟩
  · rw [hexval, if_pos ⟨hlow, hhigh⟩]
  · rw [hexval, if_neg (by omega), if_pos ⟨hlow, hhigh⟩]
  · rw [hexval, if_neg (by omega), if_neg (by omega), if_pos ⟨hlow, hhigh⟩]

/-! ### The statements -/

/-- Settles O22, by LD_BUSY. -/
theorem bmLdbResult : Obligations.BmLdbResult := fun _ => ⟨exec_bmLdb_of_busy, exec_bmLdb_of_idle⟩

/-- Settles O24, by LD_BUSY. -/
theorem bmLdeResult : Obligations.BmLdeResult := fun _ => ⟨exec_bmLde_of_busy, exec_bmLde_of_idle⟩

/-- Settles O23, by LD_BUSY, the character, and whether the character completes the load. -/
theorem bmLdcResult : Obligations.BmLdcResult := by
  refine fun c s => ⟨exec_bmLdc_of_idle, fun hbusy hc => exec_bmLdc_of_noDigit hbusy (hexval_eq_none hc),
    fun v hbusy hv => ⟨_, putNibble s.ldSr s.ldCnt.val (BitVec.ofNat 4 v),
      exec_bmLdc_of_digit hbusy (hexval_eq_some hv), fun i hi hi' => ?fields, ?outcome⟩⟩
  case fields =>
    rw [fieldBit_putNibble _ _ _ _ s.ldCnt.isLt ⟨hi, hi'⟩]
    refine ite_congr rfl (fun hnibble => ?_) fun _ => rfl
    have hbit : 4 * s.ldCnt.val + 4 - i < 4 := by omega
    rw [BitVec.getLsbD_ofNat, decide_eq_true hbit, Bool.true_and]
  case outcome =>
    rcases takeNibble_cases (BitVec.ofNat 4 v) s with ⟨hcommit, heq⟩ | ⟨hopen, heq⟩ <;> rw [heq]
    · rw [if_pos hcommit]
      rfl
    · rw [if_neg hopen]
      exact ⟨Fin.val_add_one_of_lt' (by omega), rfl⟩

end Sys2Proof.Machine
end

section
/-! PROOFS. Loading a bitmap's own wire form leaves it (O25): the run of BMLOAD, command by command (spec 41_bitmap.md
R101, R111 to R114; 30_encoding.md R82). -/

namespace Sys2Proof.Machine

/-! ### The fields loaded -/

/-- LD_SR holds the first `k` wire characters of `v`, and nothing else. -/
def LoadedFields (v sr : Bitmap) (k : Nat) : Prop :=
  ∀ i, 1 ≤ i → i ≤ 128 → fieldBit sr i = (decide (i ≤ 4 * k) && fieldBit v i)

theorem loadedFields_zero (v : Bitmap) : LoadedFields v 0 0 := by
  intro i hi _
  simp [show i ≠ 0 by omega]

/-- The next wire character adds its four fields. -/
theorem LoadedFields.putNibble {v sr : Bitmap} {k : Nat} (h : LoadedFields v sr k) (hk : k < 32) :
    LoadedFields v (putNibble sr k (wireDigit v k)) (k + 1) := by
  intro i hi hi'
  rw [fieldBit_putNibble _ _ _ _ hk ⟨hi, hi'⟩]
  split
  case isTrue hnew =>
    rw [wireDigit_getLsbD v hk (by omega), show 4 * k + 4 - (4 * k + 4 - i) = i by omega]
    simp [show i ≤ 4 * (k + 1) by omega]
  case isFalse hold =>
    rw [h i hi hi', decide_eq_decide.2 (show i ≤ 4 * k ↔ i ≤ 4 * (k + 1) by omega)]

/-- After the first character field 1 is final. -/
theorem LoadedFields.field_one {v sr : Bitmap} {k : Nat} (h : LoadedFields v sr k) (hk : 1 ≤ k) :
    fieldBit sr 1 = fieldBit v 1 := by
  rw [h 1 (by decide) (by decide), decide_eq_true (by omega), Bool.true_and]

/-- The characters of the whole wire form make up the bitmap: beyond the wire length it is empty (R36). -/
theorem LoadedFields.eq_of_wlen {s : State} {sr : Bitmap} (h : LoadedFields s.bm sr s.wlen)
    (hempty : SecondaryEmpty s.bm) : sr = s.bm := by
  refine bitmap_ext fun i hi hi' => ?_
  rw [h i hi hi', s.wlen_eq]
  split
  case isTrue => simp [hi']
  case isFalse hprimary =>
    by_cases hlow : i ≤ 64
    · simp [hlow]
    · simp [hempty (by simpa using hprimary) i (by omega) hi']

/-- The load completes exactly with the last character of the wire form (R112). -/
theorem LoadedFields.completes_iff {s : State} {sr : Bitmap} {k : Nat} (h : LoadedFields s.bm sr (k + 1))
    (hk : k < s.wlen) : (k + 1 = 16 ∧ fieldBit sr 1 = false) ∨ k + 1 = 32 ↔ k + 1 = s.wlen := by
  rw [h.field_one (by omega)]
  rw [s.wlen_eq] at hk ⊢
  cases hone : fieldBit s.bm 1
  · simp only [hone, Bool.false_eq_true, if_false, and_true] at hk ⊢
    omega
  · simp only [if_true, Bool.true_eq_false, and_false, false_or]

/-! ### The stages of the run -/

@[simp] theorem wireForm_length (s : State) : (wireForm s).length = s.wlen := by simp [wireForm]

/-- The accesses left when the load has taken `k` characters: the other characters, then BM_LDE. -/
def loadRest (s : State) (k : Nat) (rest : List HostEvent) : List HostEvent :=
  commandWrites (((wireForm s).drop k).map .bmLdc ++ [.bmLde]) ++ rest

theorem loadRest_of_lt {s : State} {k : Nat} (hk : k < s.wlen) (rest : List HostEvent) :
    loadRest s k rest = commandWrite (encode (.bmLdc (wireChar s.bm k))) :: loadRest s (k + 1) rest := by
  have hchar : (wireForm s)[k]'(by simpa using hk) = wireChar s.bm k := by simp [wireForm]
  rw [loadRest, List.drop_eq_getElem_cons (by simpa using hk), hchar]
  rfl

theorem loadRest_wlen (s : State) (rest : List HostEvent) :
    loadRest s s.wlen rest = commandWrite (encode .bmLde) :: rest := by
  rw [loadRest, List.drop_of_length_le (by simp)]
  rfl

/-- The load of `s`'s wire form is open in `u`, with `k` characters taken and every command so far a success. -/
structure Loading (s : State) (k : Nat) (rest : List HostEvent) (u : State) : Prop where
  busy : u.ldBusy = true
  cnt : u.ldCnt.val = k
  fields : LoadedFields s.bm u.ldSr k
  bm : u.bm = s.bm
  err : u.err = s.err
  cerr : u.cerr = 0
  pending : u.pending = loadRest s k rest

/-- The load of `s`'s wire form has ended in `u`, every command so far a success. -/
structure Loaded (s : State) (pending : List HostEvent) (u : State) : Prop where
  idle : u.ldBusy = false
  bm : u.bm = s.bm
  err : u.err = s.err
  cerr : u.cerr = 0
  pending : u.pending = pending

/-- A step with the write of a well-formed command pending runs the command. -/
theorem step_command {s : State} {i : Instr} {rest : List HostEvent} (hi : i.wellFormed = true)
    (h : s.pending = commandWrite (encode i) :: rest) : step s = exec i { s with pending := rest } :=
  (step_commandWrite s _ rest h).trans (runWord_of_decode _ ((wellFormed_iff_decode_encode i).1 hi))

theorem takeNibble_of_complete {v : BitVec 4} {s : State}
    (h : (s.ldCnt.val + 1 = 16 ∧ fieldBit (putNibble s.ldSr s.ldCnt.val v) 1 = false) ∨ s.ldCnt.val + 1 = 32) :
    s.takeNibble v = { s with bm := putNibble s.ldSr s.ldCnt.val v, ldBusy := false, ldCnt := 0, ldSr := 0 } :=
  if_pos h

theorem takeNibble_of_incomplete {v : BitVec 4} {s : State}
    (h : ¬ ((s.ldCnt.val + 1 = 16 ∧ fieldBit (putNibble s.ldSr s.ldCnt.val v) 1 = false) ∨ s.ldCnt.val + 1 = 32)) :
    s.takeNibble v = { s with ldCnt := s.ldCnt + 1, ldSr := putNibble s.ldSr s.ldCnt.val v } := if_neg h

/-- BM_LDB opens the load (R111). -/
theorem step_opensLoad {s : State} {rest : List HostEvent} (hidle : s.ldBusy = false)
    (h : s.pending = commandWrite (encode .bmLdb) :: loadRest s 0 rest) : Gives (Loading s 0 rest) (step s) := by
  have hstep := (step_command rfl h).trans (exec_bmLdb_of_idle hidle)
  exact ⟨_, hstep, rfl, rfl, loadedFields_zero s.bm, rfl, rfl, rfl, rfl⟩

section
variable {s u : State} {k : Nat} {rest : List HostEvent}

/-- The step of the next character. -/
theorem Loading.step_eq (h : Loading s k rest u) (hk : k < s.wlen) :
    step u = succeed (({ u with pending := loadRest s (k + 1) rest } : State).takeNibble (wireDigit s.bm k)) :=
  (step_command rfl (h.pending.trans (loadRest_of_lt hk rest))).trans
    (exec_bmLdc_of_digit h.busy (hexval_hexchar (wireDigit s.bm k)))

/-- A character before the last leaves the load open (R112). -/
theorem Loading.step_open (h : Loading s k rest u) (hk : k + 1 < s.wlen) :
    Gives (Loading s (k + 1) rest) (step u) := by
  have hlt : k + 1 < 32 := Nat.lt_of_lt_of_le hk s.wlen_le
  obtain rfl := h.cnt
  have hfields := h.fields.putNibble (Nat.lt_of_succ_lt hlt)
  have hopen := mt (hfields.completes_iff (Nat.lt_of_succ_lt hk)).1 (Nat.ne_of_lt hk)
  have hstep := (h.step_eq (Nat.lt_of_succ_lt hk)).trans (congrArg succeed (takeNibble_of_incomplete hopen))
  exact ⟨_, hstep, h.busy, Fin.val_add_one_of_lt' hlt, hfields, h.bm, h.err, rfl, rfl⟩

/-- The last character commits the bitmap it came from (R112, R114). -/
theorem Loading.step_last (h : Loading s k rest u) (hempty : SecondaryEmpty s.bm) (hk : k + 1 = s.wlen) :
    Gives (Loaded s (loadRest s s.wlen rest)) (step u) := by
  have hlt : k < s.wlen := Nat.lt_of_succ_le hk.le
  obtain rfl := h.cnt
  have hfields := h.fields.putNibble (Nat.lt_of_lt_of_le hlt s.wlen_le)
  have hcomplete := (hfields.completes_iff hlt).2 hk
  have hstep := (h.step_eq hlt).trans (congrArg succeed (takeNibble_of_complete hcomplete))
  rw [hk] at hfields hstep
  exact ⟨_, hstep, rfl, hfields.eq_of_wlen hempty, h.err, rfl, rfl⟩

/-- BM_LDE changes nothing after the load (R113). -/
theorem Loaded.step_end (h : Loaded s (loadRest s s.wlen rest) u) : Gives (Loaded s rest) (step u) := by
  have hstep := (step_command rfl (h.pending.trans (loadRest_wlen s rest))).trans (exec_bmLde_of_idle h.idle)
  exact ⟨_, hstep, h.idle, h.bm, h.err, rfl, rfl⟩

/-! ### The run -/

theorem Gives.imp {P Q : State → Prop} {r : Result} (h : Gives P r) (hPQ : ∀ u, P u → Q u) : Gives Q r := by
  obtain ⟨u, hu, hP⟩ := h
  exact ⟨u, hu, hPQ u hP⟩

/-- A run whose end goes on with a step is a run of one step more. -/
theorem Gives.run_succ {P Q : State → Prop} {n : Nat} (h : Gives P (run n s)) (hstep : ∀ u, P u → Gives Q (step u)) :
    Gives Q (run (n + 1) s) := by
  obtain ⟨u, hu, hP⟩ := h
  obtain ⟨t, ht, hQ⟩ := hstep u hP
  exact ⟨t, (run_add_of_next 1 hu).trans (run_succ_of_next 0 ht), hQ⟩

variable (hempty : SecondaryEmpty s.bm) (hidle : s.ldBusy = false)
  (hpending : s.pending = commandWrites (Asm.bmload (wireForm s)) ++ rest)

include hidle hpending in
/-- After BM_LDB and `k` characters, not yet all. -/
theorem run_loading (hk : k < s.wlen) : Gives (Loading s k rest) (run (k + 1) s) := by
  induction k with
  | zero =>
    have hstart : Gives (s = ·) (run 0 s) := ⟨s, rfl, rfl⟩
    exact hstart.run_succ fun _ hu => hu ▸ step_opensLoad hidle hpending
  | succ k ih => exact (ih (Nat.lt_of_succ_lt hk)).run_succ fun _ hu => hu.step_open hk

include hempty hidle hpending

/-- After BM_LDB and all characters. -/
theorem run_loaded : Gives (Loaded s (loadRest s s.wlen rest)) (run (s.wlen + 1) s) := by
  obtain ⟨k, hk⟩ : ∃ k, s.wlen = k + 1 := Nat.exists_eq_add_one.2 (by rw [s.wlen_eq]; split <;> decide)
  have hlast := (run_loading hidle hpending (k := k) (by omega)).run_succ fun _ hu => hu.step_last hempty hk.symm
  rwa [← hk] at hlast

/-- After the whole of BMLOAD. -/
theorem run_bmload : Gives (Loaded s rest) (run (s.wlen + 2) s) :=
  (run_loaded hempty hidle hpending).run_succ fun _ hu => hu.step_end

/-- Every command of BMLOAD succeeds. -/
theorem run_bmload_cerr {n : Nat} (hn : 1 ≤ n) (hn' : n ≤ s.wlen + 2) : Gives (·.cerr = 0) (run n s) := by
  obtain ⟨k, rfl⟩ := Nat.exists_eq_add_of_le' hn
  obtain hk | rfl | rfl : k < s.wlen ∨ k = s.wlen ∨ k = s.wlen + 1 := by omega
  · exact (run_loading hidle hpending hk).imp fun _ hu => hu.cerr
  · exact (run_loaded hempty hidle hpending).imp fun _ hu => hu.cerr
  · exact (run_bmload hempty hidle hpending).imp fun _ hu => hu.cerr

end

/-- Settles O25: BM_LDB opens the load, each character adds its four fields, the last one commits the bitmap it came
from, and BM_LDE finds no load open. -/
theorem wireRoundTrip : Obligations.WireRoundTrip := by
  intro s rest hempty hidle hpending
  rw [wireForm_length]
  obtain ⟨t, hrun, ht⟩ := run_bmload hempty hidle hpending
  exact ⟨⟨t, hrun, ht.bm, ht.idle, ht.err, ht.pending⟩, fun n => run_bmload_cerr hempty hidle hpending⟩

end Sys2Proof.Machine
end

section
/-! PROOFS. The MAC engine's commands: MAC_CLR (O3), KEY_LD (O4), MAC_INIT (O5), MAC_UPD (O6), MAC_FIN (O7),
EXP_LD (O8), MAC_CHK (O9), MAC_RDH (O10) and MAC_RD (O11) (spec 42_mac_engine.md R131 to R139). -/

namespace Sys2Proof.Machine

/-! ### Bytes in order -/

/-- The eight bytes of a block-sized register, in order. -/
theorem toList_eight (v : Vector Byte 8) : v.toList = [v[0], v[1], v[2], v[3], v[4], v[5], v[6], v[7]] :=
  List.ext_getElem (by simp) fun j hj _ => by
    have hj : j < 8 := by simpa using hj
    interval_cases j <;> simp

/-- An appended byte is read back at its number, and no other byte changes. -/
theorem getElem_putByte {n k : Nat} (v : Vector Byte n) (b : Byte) (j : Nat) (hj : j < n) :
    (v.setIfInBounds k b)[j] = if j = k then b else v[j] := by
  rw [Vector.getElem_setIfInBounds hj]
  exact if_congr eq_comm rfl rfl

section
variable {s : State} {b : Byte} {pos : Nat}

/-! ### KEY_LD -/

theorem exec_keyLd_of_active (h : s.macAct = true) : exec (.keyLd b) s = .next (macFailure 0xB s) := if_pos h

theorem exec_keyLd_of_full (h : s.macAct = false) (hcnt : s.keyCnt.val = 16) :
    exec (.keyLd b) s = .next (macFailure 0x8 s) := by
  simp [exec, execKeyLd, h, hcnt, Config.keyBytes, raise_mac, ErrCode.code]

theorem exec_keyLd (h : s.macAct = false) (hcnt : s.keyCnt.val < 16) :
    exec (.keyLd b) s = succeed (s.appendKey b) := by
  simp [exec, execKeyLd, h, hcnt.ne, Config.keyBytes]

/-! ### MAC_INIT -/

theorem exec_macInit_of_active (h : s.macAct = true) : exec .macInit s = .next (macFailure 0xB s) := if_pos h

theorem exec_macInit_of_noKey (h : s.macAct = false) (hcnt : s.keyCnt.val ≠ 16) :
    exec .macInit s = .next (macFailure 0x8 s) := by
  simp [exec, execMacInit, h, hcnt, Config.keyBytes, raise_mac, ErrCode.code]

theorem exec_macInit (h : s.macAct = false) (hcnt : s.keyCnt.val = 16) : exec .macInit s = succeed s.openMac := by
  simp [exec, execMacInit, h, hcnt, Config.keyBytes]

/-! ### MAC_UPD -/

theorem exec_macUpd_of_idle (h : s.macAct = false) : exec (.macUpd b) s = .next (macFailure 0xB s) := by
  simp [exec, execMacUpd, h, raise_mac, ErrCode.code]

theorem exec_macUpd_of_lt (h : s.macAct = true) (hcnt : s.bcnt.val < 7) :
    exec (.macUpd b) s = succeed { s.putMessageByte b with bcnt := s.bcnt + 1 } := by
  have hcnt : s.bcnt ≠ 7 := Fin.ne_of_lt hcnt
  simp [exec, execMacUpd, h, hcnt]

theorem exec_macUpd_of_eq (h : s.macAct = true) (hcnt : s.bcnt.val = 7) :
    exec (.macUpd b) s = succeed (s.putMessageByte b).absorbBlock := by
  have hcnt : s.bcnt = 7 := Fin.ext hcnt
  simp [exec, execMacUpd, h, hcnt]

/-- The block the eighth byte completes (R133). -/
theorem bufBlock_putMessageByte (hcnt : s.bcnt.val = 7) : (s.putMessageByte b).bufBlock =
    packBlock [s.buf[0], s.buf[1], s.buf[2], s.buf[3], s.buf[4], s.buf[5], s.buf[6], b] := by
  simp [State.bufBlock, toList_eight, hcnt]

/-! ### MAC_FIN -/

theorem exec_macFin_of_idle (h : s.macAct = false) : exec .macFin s = .next (macFailure 0xB s) := by
  simp [exec, execMacFin, h, raise_mac, ErrCode.code]

theorem exec_macFin (h : s.macAct = true) :
    exec .macFin s = succeedWith s.finalMac (s.closeMac s.finalMac) := by
  simp [exec, execMacFin, h]

/-! ### EXP_LD -/

theorem exec_expLd_of_full (hcnt : s.expCnt.val = 8) : exec (.expLd b) s = .next (macFailure 0xB s) := if_pos hcnt

theorem exec_expLd (hcnt : s.expCnt.val < 8) : exec (.expLd b) s = succeed (s.appendExp b) := if_neg hcnt.ne

/-! ### MAC_CHK -/

theorem exec_macChk_of_missing (h : s.macValid = false ∨ s.expCnt.val ≠ 8) :
    exec .macChk s = .next (macFailure 0xB s) := by
  simp [exec, execMacChk, h, Config.blockBytes, raise_mac, ErrCode.code]

theorem exec_macChk_of_ne (h : s.macValid = true) (hcnt : s.expCnt.val = 8) (hne : s.expBlock ≠ s.macr) :
    exec .macChk s = .next (macFailure 0x7 s) := by
  simp [exec, execMacChk, h, hcnt, hne, Config.blockBytes, raise_mac, ErrCode.code]

theorem exec_macChk_of_eq (h : s.macValid = true) (hcnt : s.expCnt.val = 8) (heq : s.expBlock = s.macr) :
    exec .macChk s = succeedWith 1 s.clearExp := by
  simp [exec, execMacChk, h, hcnt, heq, Config.blockBytes]

/-! ### MAC_RD and MAC_RDH -/

theorem exec_macRd_of_noMac (h : s.macValid = false) : exec .macRd s = .next (macFailure 0xB s) := by
  simp [exec, execMacRd, h, raise_mac, ErrCode.code]

theorem exec_macRd (h : s.macValid = true) : exec .macRd s = succeedWith s.macr s := by
  simp [exec, execMacRd, h]

theorem exec_macRdh_of_noMac (h : s.macValid = false) : exec (.macRdh pos) s = .next (macFailure 0xB s) := by
  simp [exec, execMacRdh, h, raise_mac, ErrCode.code]

theorem exec_macRdh_of_outside (h : s.macValid = true) (hpos : 15 < pos) :
    exec (.macRdh pos) s = .next (macFailure 0x9 s) := by
  simp [exec, execMacRdh, h, hpos, raise_mac, ErrCode.code]

theorem exec_macRdh (h : s.macValid = true) (hpos : pos ≤ 15) :
    exec (.macRdh pos) s = succeedWith ((macChar s.macr pos).setWidth 64) s := by
  simp [exec, execMacRdh, h, Nat.not_lt.2 hpos]

end

/-- The value of a wire character of a MAC, by the digit it stands for (R13, R58). -/
theorem macChar_toNat (m : Block) (n : Nat) {digit : Nat} (hdigit : digit = m.toNat / 2 ^ (60 - 4 * n) % 16) :
    (macChar m n).toNat = if digit ≤ 9 then 0x30 + digit else 0x41 + (digit - 10) := by
  rw [macChar, hexchar_toNat, BitVec.extractLsb'_toNat, Nat.shiftRight_eq_div_pow, hdigit]

/-! ### The statements -/

/-- Settles O3: MAC_CLR is ABORT_MAC as a success. -/
theorem macClrResult : Obligations.MacClrResult := fun _ =>
  ⟨_, rfl, fun _ _ => Vector.getElem_replicate .., fun _ _ => Vector.getElem_replicate ..,
    fun _ _ => Vector.getElem_replicate .., rfl⟩

/-- Settles O4, by MAC_ACT and KEY_CNT. -/
theorem keyLdResult : Obligations.KeyLdResult := fun b s =>
  ⟨exec_keyLd_of_active, exec_keyLd_of_full, fun hact hcnt =>
    ⟨_, exec_keyLd hact hcnt, getElem_putByte s.key b, Fin.val_add_one_of_lt' (by omega), rfl⟩⟩

/-- Settles O5, by MAC_ACT and KEY_CNT. -/
theorem macInitResult : Obligations.MacInitResult := fun _ =>
  ⟨exec_macInit_of_active, exec_macInit_of_noKey, fun hact hcnt =>
    ⟨_, exec_macInit hact hcnt, fun _ _ => Vector.getElem_replicate .., rfl⟩⟩

/-- Settles O6, by MAC_ACT and whether the byte completes a block. -/
theorem macUpdResult : Obligations.MacUpdResult := by
  refine fun b s => ⟨exec_macUpd_of_idle, fun hact hcnt => ?buffered, fun hact hcnt => ?absorbed⟩
  case buffered =>
    exact ⟨_, exec_macUpd_of_lt hact hcnt, getElem_putByte s.buf b, Fin.val_add_one_of_lt' (by omega), rfl⟩
  case absorbed =>
    refine ⟨_, exec_macUpd_of_eq hact hcnt, ?_, fun _ _ => Vector.getElem_replicate .., rfl⟩
    rw [← bufBlock_putMessageByte hcnt, State.complete_cv, State.absorbBlock_cv]
    rfl

/-- Settles O7, by MAC_ACT. -/
theorem macFinResult : Obligations.MacFinResult := by
  refine fun s => ⟨exec_macFin_of_idle, fun hact => ?_⟩
  rw [← toList_eight]
  have hmac : s.finalMac = cipher.enc s.k1 (cipher.dec s.k2 (cipher.enc s.k1 (s.cv ^^^ s.bufBlock))) := rfl
  exact ⟨_, _, _, exec_macFin hact, rfl, rfl, hmac, fun _ _ => Vector.getElem_replicate ..,
    fun _ _ => Vector.getElem_replicate .., rfl⟩

/-- Settles O8, by EXP_CNT. -/
theorem expLdResult : Obligations.ExpLdResult := fun b s =>
  ⟨exec_expLd_of_full, fun hcnt =>
    ⟨_, exec_expLd hcnt, getElem_putByte s.exp b, Fin.val_add_one_of_lt' (by omega), rfl⟩⟩

/-- Settles O9, by what is loaded and whether it is the MAC. -/
theorem macChkResult : Obligations.MacChkResult := by
  intro s e he
  rw [← toList_eight] at he
  subst he
  exact ⟨exec_macChk_of_missing, exec_macChk_of_ne, fun hvalid hcnt heq =>
    ⟨_, exec_macChk_of_eq hvalid hcnt heq, fun _ _ => Vector.getElem_replicate .., rfl⟩⟩

/-- Settles O10, by MAC_VALID and the position. -/
theorem macRdhResult : Obligations.MacRdhResult := fun pos s =>
  ⟨exec_macRdh_of_noMac, exec_macRdh_of_outside, fun hvalid hpos =>
    ⟨_, _, exec_macRdh hvalid hpos, rfl,
      (BitVec.toNat_setWidth_of_le (by decide)).trans (macChar_toNat s.macr pos rfl), rfl⟩⟩

/-- Settles O11, by MAC_VALID. -/
theorem macRdResult : Obligations.MacRdResult := fun _ => ⟨exec_macRd_of_noMac, exec_macRd⟩

end Sys2Proof.Machine
end

section
/-! PROOFS. The MAC engine and the bitmap unit do not read or write each other (O30) (spec 42_mac_engine.md R145): a
command of one unit commutes with any change of what the other unit holds. -/

namespace Sys2Proof.Machine

/-- The outcomes are next states, the second the image of the first. -/
def Follows (f : State → State) (r r' : Result) : Prop := ∃ t, r = .next t ∧ r' = .next (f t)

section
variable {f : State → State}

theorem Follows.ite {c : Prop} [Decidable c] {a a' b b' : Result} (ha : Follows f a a') (hb : Follows f b b') :
    Follows f (if c then a else b) (if c then a' else b') := by
  split
  · exact ha
  · exact hb

theorem follows_succeed {s t : State} (h : t.complete = f s.complete) : Follows f (succeed s) (succeed t) :=
  ⟨_, rfl, congrArg Host.Outcome.next h⟩

theorem follows_raise {s t : State} {g : Group} {c : ErrCode}
    (h : (t.abort g).recordError c = f ((s.abort g).recordError c)) : Follows f (raise g c s) (raise g c t) :=
  ⟨_, rfl, congrArg Host.Outcome.next h⟩

theorem Follows.eq_next {r r' : Result} {t : State} (h : Follows f r r') (hr : r = .next t) : r' = .next (f t) := by
  obtain ⟨u, rfl, hr'⟩ := h
  cases hr
  exact hr'

/-- Where the change leaves the state a command begins in, it leaves the outcome too. -/
theorem Follows.fixed {r : Result} {t : State} (h : Follows f r r) (hr : r = .next t) : t = f t :=
  Host.Outcome.next.inj (hr.symm.trans (h.eq_next hr))

end

/-! ### The MAC engine's commands -/

/-- The MAC engine and the outcome registers of `s`, and everything else of `u`: the bitmap unit and the host's side. -/
def withOutsideOf (u s : State) : State :=
  { withBitmapUnitOf u s with pending := u.pending, responses := u.responses }

theorem absorbBlock_withOutsideOf (u s : State) :
    (withOutsideOf u s).absorbBlock = withOutsideOf u s.absorbBlock := by
  simp only [withOutsideOf, withBitmapUnitOf, withLoaderOf, State.absorbBlock]
  rfl

theorem finalMac_withOutsideOf (u s : State) : (withOutsideOf u s).finalMac = s.finalMac := rfl

/-- A MAC command does the same whatever stands outside the MAC engine, and leaves it. -/
theorem exec_withOutsideOf {i : Instr} (u s : State) (hi : isMacCommand i = true) :
    Follows (withOutsideOf u) (exec i s) (exec i (withOutsideOf u s)) := by
  have fails (c : ErrCode) : Follows (withOutsideOf u) (raise .mac c s) (raise .mac c (withOutsideOf u s)) :=
    follows_raise rfl
  have absorbs (byte : Byte) :=
    congrArg State.complete (absorbBlock_withOutsideOf u (s.putMessageByte byte))
  cases i with
  | macClr => exact follows_succeed rfl
  | keyLd byte => exact .ite (fails _) (.ite (fails _) (follows_succeed rfl))
  | macInit => exact .ite (fails _) (.ite (fails _) (follows_succeed rfl))
  | macUpd byte => exact .ite (fails _) (.ite (follows_succeed (absorbs byte)) (follows_succeed rfl))
  | macFin => exact .ite (fails _) (follows_succeed (by rw [finalMac_withOutsideOf]; rfl))
  | expLd byte => exact .ite (fails _) (follows_succeed rfl)
  | macChk => exact .ite (fails _) (.ite (fails _) (follows_succeed rfl))
  | macRd => exact .ite (fails _) (follows_succeed rfl)
  | macRdh pos => exact .ite (fails _) (.ite (fails _) (follows_succeed rfl))
  | nop | errClr | bmClr | bmSet | bmUnset | bmTest | bmNext | bmRd | bmWlen | bmWrh | bmLdb | bmLdc | bmLde => cases hi

/-! ### The bitmap unit's commands -/

theorem takeNibble_withMacOf (u s : State) (v : BitVec 4) :
    (withMacOf u s).takeNibble v = withMacOf u (s.takeNibble v) := by
  rcases takeNibble_cases v s with ⟨hcommit, heq⟩ | ⟨hopen, heq⟩ <;> rw [heq]
  · exact takeNibble_of_complete hcommit
  · exact takeNibble_of_incomplete hopen

/-- A bitmap command does the same whatever the MAC engine holds, and leaves it. -/
theorem exec_withMacOf {i : Instr} (u s : State) (hi : isBitmapCommand i = true) :
    Follows (withMacOf u) (exec i s) (exec i (withMacOf u s)) := by
  have fails (c : ErrCode) : Follows (withMacOf u) (raise .other c s) (raise .other c (withMacOf u s)) :=
    follows_raise rfl
  have failsLoad (c : ErrCode) : Follows (withMacOf u) (raise .loader c s) (raise .loader c (withMacOf u s)) :=
    follows_raise rfl
  cases i with
  | bmClr => exact follows_succeed rfl
  | bmSet idx => exact .ite (fails _) (.ite (follows_succeed rfl) (follows_succeed rfl))
  | bmUnset idx => exact .ite (fails _) (.ite (fails _) (follows_succeed rfl))
  | bmTest idx => exact .ite (fails _) (follows_succeed rfl)
  | bmNext start => exact follows_succeed rfl
  | bmRd half => exact .ite (follows_succeed rfl) (.ite (follows_succeed rfl) (fails _))
  | bmWlen => exact follows_succeed rfl
  | bmWrh pos => exact .ite (fails _) (follows_succeed rfl)
  | bmLdb => exact .ite (failsLoad _) (follows_succeed rfl)
  | bmLdc char =>
    refine .ite (failsLoad _) ?_
    cases hexval char with
    | none => exact failsLoad _
    | some v => exact follows_succeed (congrArg State.complete (takeNibble_withMacOf u s v))
  | bmLde => exact .ite (failsLoad _) (follows_succeed rfl)
  | nop | errClr | macClr | keyLd | macInit | macUpd | macFin | expLd | macChk | macRd | macRdh => cases hi

/-! ### The statement -/

/-- Settles O30: the command commutes with replacing the other unit; replacing it by itself changes nothing, so the
command leaves it. -/
theorem unitsIndependent : Obligations.UnitsIndependent := by
  refine fun i s t u h => ⟨fun hi => ?mac, fun hi => ?bitmap⟩
  case mac =>
    have hframe : t = withOutsideOf s t := (exec_withOutsideOf s s hi).fixed h
    have hother := (exec_withOutsideOf { u with pending := s.pending, responses := s.responses } s hi).eq_next h
    rw [hframe] at hother ⊢
    exact ⟨rfl, ⟨rfl, rfl, rfl⟩, hother⟩
  case bitmap =>
    have hframe : t = withMacOf s t := (exec_withMacOf s s hi).fixed h
    refine ⟨?_, (exec_withMacOf u s hi).eq_next h⟩
    rw [hframe]
    simp [SameMac, withMacOf]

end Sys2Proof.Machine
end

section
/-! PROOFS. The retail MAC as a function: zero bytes that do not fill the final block (O51) and equal key halves (O52),
which rest on the padding and on decryption being undone by encryption (spec 42_mac_engine.md R130, R141,
R142; 43_block_cipher.md R160, R171, R172). -/

namespace Sys2Proof.Machine

/-! ### Encryption undoes decryption -/

namespace Des

/-- A permutation table undoes another where each output bit comes back from the place it went to. -/
theorem perm_perm (t u : List Nat) (ht : t.length = 64) (hu : u.length = 64)
    (htable : ∀ k < 64, 64 - t.getD (63 - k) 0 < 64 ∧ 64 - u.getD (63 - (64 - t.getD (63 - k) 0)) 0 = k) (v : Block) :
    perm 64 t (perm 64 u v) = v := by
  refine BitVec.eq_of_getLsbD_eq fun k hk => ?_
  obtain ⟨hlt, hback⟩ := htable k hk
  rw [getLsbD_perm 64 t _ k ht hk, getLsbD_perm 64 u v _ hu hlt, hback]

theorem perm_ip_fp (v : Block) : perm 64 ipTable (perm 64 fpTable v) = v :=
  perm_perm ipTable fpTable rfl rfl (by decide) v

theorem perm_fp_ip (v : Block) : perm 64 fpTable (perm 64 ipTable v) = v :=
  perm_perm fpTable ipTable rfl rfl (by decide) v

/-- The rounds in reverse order undo the rounds, on swapped halves (R172). -/
theorem foldl_round_reverse (keys : List (BitVec 48)) (lr : BitVec 32 × BitVec 32) :
    keys.reverse.foldl round (keys.foldl round lr).swap = lr.swap := by
  induction keys generalizing lr with
  | nil => rfl
  | cons k keys ih =>
    rw [List.foldl_cons, List.reverse_cons, List.foldl_append, ih]
    exact round_swap_round lr.1 lr.2 k

/-- A block's two halves. -/
def halves (v : Block) : BitVec 32 × BitVec 32 := (v.extractLsb' 32 32, v.extractLsb' 0 32)

/-- The block of two halves. -/
def join (lr : BitVec 32 × BitVec 32) : Block := lr.1 ++ lr.2

theorem halves_join (lr : BitVec 32 × BitVec 32) : halves (join lr) = lr :=
  Prod.ext BitVec.extractLsb'_append_eq_left BitVec.extractLsb'_append_eq_right

theorem join_halves (v : Block) : join (halves v) = v :=
  (BitVec.extractLsb'_append_extractLsb'_eq_extractLsb' rfl).trans BitVec.extractLsb'_eq_self

/-- The rounds and the swap before the final permutation, over a block's halves (R171). -/
theorem cipherWith_eq (keys : List (BitVec 48)) (b : Block) :
    cipherWith keys b = perm 64 fpTable (join (keys.foldl round (halves (perm 64 ipTable b))).swap) := rfl

/-- The cipher with the round keys in reverse order undoes the cipher (R172). -/
theorem cipherWith_reverse (keys : List (BitVec 48)) (b : Block) : cipherWith keys.reverse (cipherWith keys b) = b := by
  rw [cipherWith_eq keys, cipherWith_eq keys.reverse, perm_ip_fp, halves_join, foldl_round_reverse, Prod.swap_swap,
    join_halves, perm_fp_ip]

end Des

theorem cipher_enc (k b : Block) : cipher.enc k b = Des.cipherWith (Des.subkeys k) b := rfl

theorem cipher_dec (k b : Block) : cipher.dec k b = Des.cipherWith (Des.subkeys k).reverse b := rfl

/-- Encryption undoes decryption (R160). -/
theorem cipher_enc_dec (k b : Block) : cipher.enc k (cipher.dec k b) = b := by
  have h := Des.cipherWith_reverse (Des.subkeys k).reverse b
  rw [List.reverse_reverse] at h
  rw [cipher_enc, cipher_dec, h]

/-! ### The padding -/

/-- Zero bytes that do not fill the final block are the first of the padding's. -/
theorem padMessage_append_zeros {msg : List Byte} {k : Nat} (hk : msg.length % 8 + k ≤ 7) :
    padMessage (msg ++ List.replicate k 0) = padMessage msg := by
  have hlength : k + (8 - (msg.length + k) % 8) = 8 - msg.length % 8 := by omega
  rw [padMessage, padMessage, List.length_append, List.length_replicate, List.append_assoc,
    List.replicate_append_replicate, hlength]

/-- RMAC is a function of the padded message (R130). -/
theorem rmac_congr {c : Config.Cipher} {key m m' : List Byte} (h : padMessage m = padMessage m') :
    rmac c key m = rmac c key m' := by
  simp only [rmac, macFirst, h]

theorem rmac_of_length {c : Config.Cipher} {key msg : List Byte} (h : key.length = 16) : rmac c key msg =
    some (c.enc (packBlock (key.take 8)) (c.dec (packBlock (key.drop 8)) (macFirst c (packBlock (key.take 8)) msg))) :=
  if_pos h

/-! ### The statements -/

/-- Settles O51: the padded message is the same. -/
theorem paddingInvisible : Obligations.PaddingInvisible := fun _ _ _ _ =>
  ⟨fun _ hk => rmac_congr (padMessage_append_zeros hk), rmac_congr rfl⟩

/-- Settles O52: the decryption under K2 is undone by the encryption under K1. -/
theorem equalHalves : Obligations.EqualHalves := by
  intro half msg hhalf
  have hlength : (half ++ half).length = 16 := by rw [List.length_append, hhalf]
  rw [rmac_of_length hlength, List.take_left' hhalf, List.drop_left' hhalf, cipher_enc_dec]

end Sys2Proof.Machine
end

section
/-! PROOFS. Sequences of MAC commands: what the engine holds after the key bytes, and after each message byte (spec
42_mac_engine.md R130 to R140). -/

namespace Sys2Proof.Machine

/-! ### Commands that succeed one after the other -/

/-- The commands all succeed, one after the other, from one state to another. -/
inductive Succeeds : List Instr → State → State → Prop
  | nil (s : State) : Succeeds [] s s
  | cons {i : Instr} {is : List Instr} {s t u : State} (h : exec i s = succeed t) (rest : Succeeds is t.complete u) :
    Succeeds (i :: is) s u

section
variable {i : Instr} {is js : List Instr} {s t u v : State}

theorem succeeds_singleton (h : exec i s = succeed t) : Succeeds [i] s t.complete := .cons h (.nil _)

theorem Succeeds.append (h : Succeeds is s t) (h' : Succeeds js t u) : Succeeds (is ++ js) s u := by
  induction h with
  | nil => exact h'
  | cons hexec _ ih => exact .cons hexec (ih h')

/-- The commands up to any one succeed too. -/
theorem Succeeds.take (h : Succeeds is s u) (n : Nat) : ∃ v, Succeeds (is.take n) s v := by
  induction h generalizing n with
  | nil => exact ⟨_, by simpa using .nil _⟩
  | cons hexec _ ih =>
    cases n with
    | zero => exact ⟨_, .nil _⟩
    | succ n =>
      obtain ⟨v, hv⟩ := ih n
      exact ⟨v, .cons hexec hv⟩

theorem Succeeds.cerr (h : Succeeds is s u) (hne : is ≠ []) : u.cerr = 0 := by
  induction h with
  | nil => exact absurd rfl hne
  | cons hexec hrest ih =>
    cases hrest with
    | nil => rfl
    | cons => exact ih (by simp)

/-- A success keeps ERR, but for ERR_CLR (R203). -/
theorem exec_succeed_err (h : exec i s = succeed t) (hi : i ≠ .errClr) : t.err = s.err := by
  rcases exec_shape i s with ⟨c, -, hc, hraise⟩ | ⟨t', hsucceed, herr, -⟩
  · have hstate := Host.Outcome.next.inj (hraise.symm.trans h)
    exact absurd (congrArg State.cerr hstate) (mt (code_eq_zero_iff c).1 hc)
  · have hstate := Host.Outcome.next.inj (hsucceed.symm.trans h)
    have hsame : t.err = t'.err := by simpa using congrArg State.err hstate.symm
    exact hsame.trans (herr hi)

theorem Succeeds.err (h : Succeeds is s u) (his : .errClr ∉ is) : u.err = s.err := by
  induction h with
  | nil => rfl
  | cons hexec _ ih =>
    obtain ⟨hi, his⟩ := not_or.1 (mt List.mem_cons.2 his)
    exact (ih his).trans (exec_succeed_err hexec (Ne.symm hi))

/-! ### The machine's run of such commands -/

/-- Commands of the MAC engine that can be written to CMD. -/
def Runnable (is : List Instr) : Prop := ∀ i ∈ is, isMacCommand i = true ∧ i.wellFormed = true

/-- A MAC command does the same whatever accesses are pending, and leaves them (R145). -/
theorem exec_setPending (hi : isMacCommand i = true) (h : exec i s = .next t) (pending : List HostEvent) :
    exec i { s with pending := pending } = .next { t with pending := pending } := by
  have hframe : t = withOutsideOf s t := (exec_withOutsideOf s s hi).fixed h
  have hother := (exec_withOutsideOf { s with pending := pending } s hi).eq_next h
  rw [hframe] at hother ⊢
  exact hother

theorem commandWrites_append (is js : List Instr) : commandWrites (is ++ js) = commandWrites is ++ commandWrites js :=
  List.map_append

/-- Writing the commands to CMD takes a step each, to the state the commands lead to. -/
theorem Succeeds.run_pending (h : Succeeds is s u) (his : Runnable is) (rest : List HostEvent) :
    run is.length { s with pending := commandWrites is ++ rest } = .next { u with pending := rest } := by
  induction h with
  | nil => rfl
  | @cons i is s t u hexec _ ih =>
    obtain ⟨⟨hi, hwf⟩, his⟩ := List.forall_mem_cons.1 his
    have hstep : step { s with pending := commandWrites (i :: is) ++ rest } =
        .next { t.complete with pending := commandWrites is ++ rest } :=
      (step_command hwf rfl).trans (exec_setPending hi hexec _)
    rw [List.length_cons, run_succ_of_next _ hstep]
    exact ih his

theorem Succeeds.run_eq {rest : List HostEvent} (h : Succeeds is s u) (his : Runnable is)
    (hpending : s.pending = commandWrites is ++ rest) : run is.length s = .next { u with pending := rest } := by
  have hs : s = { s with pending := commandWrites is ++ rest } := by rw [← hpending]
  rw [hs]
  exact h.run_pending his rest

/-- The run of a part of the commands: the others are still pending. -/
theorem Succeeds.run_take {rest : List HostEvent} {n : Nat} (h : Succeeds (is.take n) s v) (his : Runnable is)
    (hpending : s.pending = commandWrites is ++ rest) (hn : n ≤ is.length) :
    run n s = .next { v with pending := commandWrites (is.drop n) ++ rest } := by
  have hlength : (is.take n).length = n := by simpa using hn
  have hsplit : s.pending = commandWrites (is.take n) ++ (commandWrites (is.drop n) ++ rest) := by
    rw [hpending, ← List.append_assoc, ← commandWrites_append, List.take_append_drop]
  have hrun := h.run_eq (fun i hi => his i (List.mem_of_mem_take hi)) hsplit
  rwa [hlength] at hrun

/-- A command written behind them runs where they lead to, whether it succeeds or not. -/
theorem Succeeds.run_next {rest : List HostEvent} (h : Succeeds is s v) (his : Runnable is) (hi : i.wellFormed = true)
    (hpending : s.pending = commandWrites (is ++ [i]) ++ rest) :
    run (is.length + 1) s = exec i { v with pending := rest } := by
  have hsplit : s.pending = commandWrites is ++ (commandWrite (encode i) :: rest) := by
    rw [hpending, commandWrites_append, List.append_assoc]
    rfl
  obtain ⟨t, ht⟩ := exec_next i { v with pending := rest }
  have hstep : step { v with pending := commandWrite (encode i) :: rest } = .next t := (step_command hi rfl).trans ht
  calc run (is.length + 1) s
    _ = run 1 { v with pending := commandWrite (encode i) :: rest } := run_add_of_next 1 (h.run_eq his hsplit)
    _ = .next t := run_succ_of_next 0 hstep
    _ = exec i { v with pending := rest } := ht.symm

end

/-! ### Bytes loaded in order -/

/-- A byte appended behind the first `k` ones. -/
theorem take_setIfInBounds {n k : Nat} (v : Vector Byte n) (b : Byte) (hk : k < n) :
    (v.setIfInBounds k b).toList.take (k + 1) = v.toList.take k ++ [b] := by
  have hlength : k < v.toList.length := by simpa using hk
  rw [Vector.toList_setIfInBounds, List.take_add_one, List.take_set_of_le (Nat.le_refl k),
    List.getElem?_set_self hlength]
  rfl

/-- A command for each byte: what the bytes before it led to lets the next one succeed, so they all do. -/
theorem succeeds_bytes {load : Byte → Instr} {R : List Byte → State → Prop} {bytes : List Byte} {s : State}
    (hstep : ∀ front b back u, front ++ b :: back = bytes → R front u →
      ∃ t, exec (load b) u = succeed t ∧ R (front ++ [b]) t.complete) (hstart : R [] s) :
    ∃ u, Succeeds (bytes.map load) s u ∧ R bytes u := by
  have from_front (front back : List Byte) (v : State) (hsplit : front ++ back = bytes) (hv : R front v) :
      ∃ u, Succeeds (back.map load) v u ∧ R bytes u := by
    induction back generalizing front v with
    | nil => exact ⟨v, .nil v, by simpa [← hsplit] using hv⟩
    | cons b back ih =>
      obtain ⟨t, hexec, ht⟩ := hstep front b back v hsplit hv
      obtain ⟨u, hu, hR⟩ := ih (front ++ [b]) t.complete (by simpa using hsplit) ht
      exact ⟨u, .cons hexec hu, hR⟩
  exact from_front [] bytes s rfl hstart

/-- These key bytes are loaded, and nothing else but CERR differs from `s`. -/
structure KeyLoaded (s : State) (bytes : List Byte) (u : State) : Prop where
  cnt : u.keyCnt.val = bytes.length
  key : u.key.toList.take bytes.length = bytes
  frame : u = { s with key := u.key, keyCnt := u.keyCnt, cerr := u.cerr }

/-- These bytes of an expected MAC are loaded, and nothing else but CERR differs from `s`. -/
structure ExpLoaded (s : State) (bytes : List Byte) (u : State) : Prop where
  cnt : u.expCnt.val = bytes.length
  exp : u.exp.toList.take bytes.length = bytes
  frame : u = { s with exp := u.exp, expCnt := u.expCnt, cerr := u.cerr }

section
variable {s u : State} {bytes : List Byte}

theorem KeyLoaded.appendKey (h : KeyLoaded s bytes u) (b : Byte) (hlength : bytes.length < 16) :
    KeyLoaded s (bytes ++ [b]) (u.appendKey b).complete where
  cnt := by
    have hcnt := h.cnt
    rw [List.length_append, List.length_singleton, ← hcnt]
    exact Fin.val_add_one_of_lt' (by omega)
  key := by
    rw [List.length_append, List.length_singleton, State.complete_key, State.appendKey_key, h.cnt,
      take_setIfInBounds u.key b hlength, h.key]
  frame := congrArg (fun v : State =>
    { v with key := u.key.setIfInBounds u.keyCnt.val b, keyCnt := u.keyCnt + 1, cerr := 0 }) h.frame

theorem ExpLoaded.appendExp (h : ExpLoaded s bytes u) (b : Byte) (hlength : bytes.length < 8) :
    ExpLoaded s (bytes ++ [b]) (u.appendExp b).complete where
  cnt := by
    have hcnt := h.cnt
    rw [List.length_append, List.length_singleton, ← hcnt]
    exact Fin.val_add_one_of_lt' (by omega)
  exp := by
    rw [List.length_append, List.length_singleton, State.complete_exp, State.appendExp_exp, h.cnt,
      take_setIfInBounds u.exp b hlength, h.exp]
  frame := congrArg (fun v : State =>
    { v with exp := u.exp.setIfInBounds u.expCnt.val b, expCnt := u.expCnt + 1, cerr := 0 }) h.frame

/-- KEY_LD of up to 16 bytes (R131). -/
theorem succeeds_keyLd (hact : s.macAct = false) (hcnt : s.keyCnt = 0) (hlength : bytes.length ≤ 16) :
    ∃ u, Succeeds (bytes.map .keyLd) s u ∧ KeyLoaded s bytes u := by
  refine succeeds_bytes (fun front b back u hsplit h => ?_) ⟨by rw [hcnt]; rfl, rfl, rfl⟩
  have hfront : front.length < 16 := by simp [← hsplit] at hlength; omega
  exact ⟨_, exec_keyLd (by rw [h.frame, hact]) (h.cnt ▸ hfront), h.appendKey b hfront⟩

/-- EXP_LD of up to 8 bytes (R136). -/
theorem succeeds_expLd (hcnt : s.expCnt = 0) (hlength : bytes.length ≤ 8) :
    ∃ u, Succeeds (Asm.exp8 bytes) s u ∧ ExpLoaded s bytes u := by
  refine succeeds_bytes (fun front b back u hsplit h => ?_) ⟨by rw [hcnt]; rfl, rfl, rfl⟩
  have hfront : front.length < 8 := by simp [← hsplit] at hlength; omega
  exact ⟨_, exec_expLd (h.cnt ▸ hfront), h.appendExp b hfront⟩

end

/-! ### The chain -/

section
variable (c : Config.Cipher) (k : Block)

/-- The chain's last block is absorbed into the chain of the blocks before it (R130). -/
theorem cbcChain_succ (n : Nat) (chain : Block) (bytes : List Byte) : cbcChain c k (n + 1) chain bytes =
    c.enc k (cbcChain c k n chain bytes ^^^ packBlock ((bytes.drop (8 * n)).take 8)) := by
  induction n generalizing chain bytes with
  | zero => rfl
  | succ n ih =>
    rw [cbcChain, ih, cbcChain, List.drop_drop, Nat.mul_succ, Nat.add_comm]

/-- The chain of `n` blocks depends on their bytes only. -/
theorem cbcChain_append (n : Nat) (chain : Block) (bytes more : List Byte) (hn : 8 * n ≤ bytes.length) :
    cbcChain c k n chain (bytes ++ more) = cbcChain c k n chain bytes := by
  induction n generalizing chain bytes with
  | zero => rfl
  | succ n ih =>
    have htake : (bytes ++ more).take 8 = bytes.take 8 := List.take_append_of_le_length (by omega)
    have hdrop : (bytes ++ more).drop 8 = bytes.drop 8 ++ more := List.drop_append_of_le_length (by omega)
    rw [cbcChain, cbcChain, htake, hdrop, ih _ _ (by rw [List.length_drop]; omega)]

end

/-! ### Message bytes -/

/-- The bytes since the last full block, followed by zeros (R133). -/
def partialBlock (msg : List Byte) : List Byte :=
  msg.drop (8 * (msg.length / 8)) ++ List.replicate (8 - msg.length % 8) 0

/-- The next message byte takes the place of the first zero. -/
theorem partialBlock_set (msg : List Byte) (b : Byte) : (partialBlock msg).set (msg.length % 8) b =
    msg.drop (8 * (msg.length / 8)) ++ b :: List.replicate (7 - msg.length % 8) 0 := by
  have hlength : (msg.drop (8 * (msg.length / 8))).length = msg.length % 8 := by rw [List.length_drop]; omega
  have hzeros : 8 - msg.length % 8 = 7 - msg.length % 8 + 1 := by omega
  rw [partialBlock, List.set_append_right _ _ hlength.le, hlength, Nat.sub_self, hzeros, List.replicate_succ,
    List.set_cons_zero]

theorem drop_fullBlocks_concat (msg : List Byte) (b : Byte) :
    (msg ++ [b]).drop (8 * (msg.length / 8)) = msg.drop (8 * (msg.length / 8)) ++ [b] :=
  List.drop_append_of_le_length (by omega)

/-- A computation under the key is open and has absorbed the message bytes (R140), with `n` bytes of an expected MAC
loaded beside it. -/
structure Absorbed (key : List Byte) (n : Fin 9) (msg : List Byte) (u : State) : Prop where
  act : u.macAct = true
  keyBytes : u.key.toList = key
  expCnt : u.expCnt = n
  bcnt : u.bcnt.val = msg.length % 8
  buf : u.buf.toList = partialBlock msg
  cv : u.cv = cbcChain cipher (packBlock (key.take 8)) (msg.length / 8) 0 msg

section
variable {s u : State} {key msg : List Byte} {n : Fin 9} {b : Byte}

theorem Absorbed.k1 (h : Absorbed key n msg u) : u.k1 = packBlock (key.take 8) := by
  rw [State.k1, h.keyBytes]
  rfl

theorem Absorbed.k2 (h : Absorbed key n msg u) : u.k2 = packBlock (key.drop 8) := by
  rw [State.k2, h.keyBytes]
  rfl

/-- MAC_INIT with the whole key loaded (R132). -/
theorem KeyLoaded.openMac (h : KeyLoaded s key u) (hkey : key.length = 16) :
    Absorbed key s.expCnt [] u.openMac.complete where
  act := rfl
  keyBytes := by
    have htake := h.key
    rwa [List.take_of_length_le (by simp [hkey])] at htake
  expCnt := by rw [h.frame]; rfl
  bcnt := rfl
  buf := rfl
  cv := rfl

/-- A byte that does not complete a block (R133). -/
theorem Absorbed.putByte (h : Absorbed key n msg u) (hlt : msg.length % 8 < 7) :
    Absorbed key n (msg ++ [b]) ({ u.putMessageByte b with bcnt := u.bcnt + 1 } : State).complete := by
  have hlength : (msg ++ [b]).length = msg.length + 1 := List.length_append
  have hdiv : (msg ++ [b]).length / 8 = msg.length / 8 := by omega
  have hmod : (msg ++ [b]).length % 8 = msg.length % 8 + 1 := by omega
  refine ⟨h.act, h.keyBytes, h.expCnt, ?bcnt, ?buf, ?cv⟩
  case bcnt =>
    have hbcnt := h.bcnt
    rw [hmod, ← hbcnt]
    exact Fin.val_add_one_of_lt' (by omega)
  case buf =>
    have hzeros : 8 - (msg.length % 8 + 1) = 7 - msg.length % 8 := by omega
    have hset : (u.putMessageByte b).buf.toList = (partialBlock msg).set (msg.length % 8) b := by
      rw [State.putMessageByte_buf, Vector.toList_setIfInBounds, h.buf, h.bcnt]
    rw [partialBlock, hdiv, hmod, drop_fullBlocks_concat, hzeros, List.append_assoc]
    exact hset.trans (partialBlock_set msg b)
  case cv =>
    rw [hdiv, cbcChain_append _ _ _ _ _ _ (by omega)]
    exact h.cv

/-- The block the eighth byte completes. -/
theorem Absorbed.bufBlock_putByte (h : Absorbed key n msg u) (heq : msg.length % 8 = 7) :
    (u.putMessageByte b).bufBlock = packBlock (((msg ++ [b]).drop (8 * (msg.length / 8))).take 8) := by
  have hlength : (msg.drop (8 * (msg.length / 8)) ++ [b]).length ≤ 8 := by
    rw [List.length_append, List.length_drop, List.length_singleton]
    omega
  rw [State.bufBlock, State.putMessageByte_buf, Vector.toList_setIfInBounds, h.buf, h.bcnt, partialBlock_set, heq,
    drop_fullBlocks_concat, List.take_of_length_le hlength]
  rfl

/-- The byte that completes a block (R133). -/
theorem Absorbed.absorbBlock (h : Absorbed key n msg u) (heq : msg.length % 8 = 7) :
    Absorbed key n (msg ++ [b]) (u.putMessageByte b).absorbBlock.complete := by
  have hlength : (msg ++ [b]).length = msg.length + 1 := List.length_append
  have hdiv : (msg ++ [b]).length / 8 = msg.length / 8 + 1 := by omega
  have hmod : (msg ++ [b]).length % 8 = 0 := by omega
  refine ⟨h.act, h.keyBytes, h.expCnt, hmod.symm, ?buf, ?cv⟩
  case buf =>
    have hdrop : (msg ++ [b]).drop (8 * (msg.length / 8 + 1)) = [] := List.drop_of_length_le (by omega)
    rw [partialBlock, hdiv, hmod, hdrop]
    rfl
  case cv =>
    have hk1 : (u.putMessageByte b).k1 = packBlock (key.take 8) := h.k1
    have hcv : (u.putMessageByte b).cv = cbcChain cipher (packBlock (key.take 8)) (msg.length / 8) 0 msg := h.cv
    rw [hdiv, cbcChain_succ, cbcChain_append _ _ _ _ _ _ (by omega), State.complete_cv, State.absorbBlock_cv, hk1, hcv,
      h.bufBlock_putByte heq]

/-- MAC_UPD of each byte of a message (R133, R140). -/
theorem succeeds_macUpd (h : Absorbed key n [] s) : ∃ u, Succeeds (Asm.msg msg) s u ∧ Absorbed key n msg u := by
  refine succeeds_bytes (fun front b back u _ hu => ?_) h
  by_cases hlast : front.length % 8 = 7
  · exact ⟨_, exec_macUpd_of_eq hu.act (hu.bcnt.trans hlast), hu.absorbBlock hlast⟩
  · have hlt : front.length % 8 < 7 := by omega
    exact ⟨_, exec_macUpd_of_lt hu.act (hu.bcnt ▸ hlt), hu.putByte hlt⟩

/-- The key, MAC_INIT and the bytes of a message, from an engine without a computation and a key. -/
theorem succeeds_absorbed (hkey : key.length = 16) (hact : s.macAct = false) (hcnt : s.keyCnt = 0) :
    ∃ u, Succeeds (key.map .keyLd ++ [.macInit] ++ Asm.msg msg) s u ∧ Absorbed key s.expCnt msg u := by
  obtain ⟨t, ht, hloaded⟩ := succeeds_keyLd hact hcnt hkey.le
  have htact : t.macAct = false := by rw [hloaded.frame, hact]
  obtain ⟨u, hu, habsorbed⟩ := succeeds_macUpd (msg := msg) (hloaded.openMac hkey)
  exact ⟨u, (ht.append (succeeds_singleton (exec_macInit htact (hloaded.cnt.trans hkey)))).append hu, habsorbed⟩

end

end Sys2Proof.Machine
end

section
/-! PROOFS. The retail MAC's command sequence (O49) and the verification flow (O50) (spec 42_mac_engine.md R130, R134,
R137, R140, R144; 30_encoding.md R82). -/

namespace Sys2Proof.Machine

/-! ### The end of the sequence -/

/-- The last block's ciphertext, from the chain of the full blocks and the partial block (R130). -/
theorem macFirst_eq (c : Config.Cipher) (k : Block) (msg : List Byte) :
    macFirst c k msg = c.enc k (cbcChain c k (msg.length / 8) 0 msg ^^^ packBlock (partialBlock msg)) := by
  have hlength : (padMessage msg).length = msg.length + (8 - msg.length % 8) := by simp [padMessage]
  have hblocks : (padMessage msg).length / 8 = msg.length / 8 + 1 := by omega
  have hdrop : (padMessage msg).drop (8 * (msg.length / 8)) = partialBlock msg :=
    List.drop_append_of_le_length (by omega)
  have htake : (partialBlock msg).take 8 = partialBlock msg :=
    List.take_of_length_le (by rw [← hdrop, List.length_drop]; omega)
  rw [macFirst, hblocks, cbcChain_succ, hdrop, htake, padMessage, cbcChain_append _ _ _ _ _ _ (by omega)]

/-- The computation has ended with RMAC of the message, with `n` bytes of an expected MAC loaded beside it. -/
structure Computed (key : List Byte) (n : Fin 9) (msg : List Byte) (u : State) : Prop where
  mac : rmac cipher key msg = some u.macr
  result : u.result = u.macr
  valid : u.macValid = true
  act : u.macAct = false
  keyCnt : u.keyCnt = 0
  keyZero : u.key = Vector.replicate 16 0
  expCnt : u.expCnt = n

section
variable {s u : State} {key msg : List Byte} {n : Fin 9}

/-- MAC_FIN's MAC is the reference function's (R134, R140). -/
theorem Absorbed.rmac_eq (h : Absorbed key n msg u) (hkey : key.length = 16) :
    rmac cipher key msg = some u.finalMac := by
  rw [rmac_of_length hkey, macFirst_eq, State.finalMac, h.k1, h.k2, h.cv, State.bufBlock, h.buf]

/-- MAC_FIN (R134). -/
theorem Absorbed.closeMac (h : Absorbed key n msg u) (hkey : key.length = 16) :
    Computed key n msg ((u.closeMac u.finalMac).setResult u.finalMac).complete :=
  ⟨h.rmac_eq hkey, rfl, rfl, rfl, rfl, rfl, h.expCnt⟩

/-- The commands of R140. -/
def macCommands (key msg : List Byte) : List Instr := key.map .keyLd ++ [.macInit] ++ Asm.msg msg ++ [.macFin]

theorem macCommands_length (hkey : key.length = 16) : (macCommands key msg).length = msg.length + 18 := by
  simp [macCommands, Asm.msg, hkey]
  omega

theorem macCommands_take (hkey : key.length = 16) {j : Nat} (hj : j ≤ msg.length) :
    (macCommands key msg).take (17 + j) = key.map .keyLd ++ [.macInit] ++ Asm.msg (msg.take j) := by
  have hlength : (key.map Instr.keyLd ++ [Instr.macInit]).length = 17 := by simp [hkey]
  have hmsg : j ≤ (Asm.msg msg).length := by simpa [Asm.msg] using hj
  rw [macCommands, List.append_assoc, ← hlength, List.take_length_add_append, List.take_append_of_le_length hmsg,
    Asm.msg, ← List.map_take, Asm.msg]

theorem macCommands_runnable : Runnable (macCommands key msg) := by
  simp [Runnable, macCommands, Asm.msg, or_imp, forall_and, isMacCommand, Instr.opcode, Instr.wellFormed]

/-- The whole sequence, from an engine without a computation and a key. -/
theorem succeeds_macCommands (msg : List Byte) (hkey : key.length = 16) (hact : s.macAct = false)
    (hcnt : s.keyCnt = 0) : ∃ u, Succeeds (macCommands key msg) s u ∧ Computed key s.expCnt msg u := by
  obtain ⟨u, hu, habsorbed⟩ := succeeds_absorbed (msg := msg) hkey hact hcnt
  exact ⟨_, hu.append (succeeds_singleton (exec_macFin habsorbed.act)), habsorbed.closeMac hkey⟩

end

/-- Settles O49: the commands succeed one by one; a run of part of them ends where that part leads. -/
theorem macSequence : Obligations.MacSequence := by
  intro key msg s rest hkey hact hcnt hpending
  change s.pending = commandWrites (macCommands key msg) ++ rest at hpending
  obtain ⟨t, ht, hcomputed⟩ := succeeds_macCommands msg hkey hact hcnt
  rw [← macCommands_length (msg := msg) hkey]
  refine ⟨?finished, fun n hn hn' => ?cerr, fun j hj => ?absorbed⟩
  case finished =>
    refine ⟨_, t.macr, ht.run_eq macCommands_runnable hpending, hcomputed.mac, rfl, hcomputed.result, hcomputed.valid,
      hcomputed.act, hcomputed.keyCnt, fun j hj => ?_, ht.err (by simp [macCommands, Asm.msg]), rfl⟩
    simp [hcomputed.keyZero]
  case cerr =>
    obtain ⟨v, hv⟩ := ht.take n
    refine ⟨_, hv.run_take macCommands_runnable hpending hn', hv.cerr ?_⟩
    rw [← List.length_pos_iff, List.length_take]
    omega
  case absorbed =>
    obtain ⟨v, hv, habsorbed⟩ := succeeds_absorbed (msg := msg.take j) hkey hact hcnt
    rw [← macCommands_take hkey hj] at hv
    have hlength : (msg.take j).length = j := by simpa using hj
    have hchain := cbcChain_append cipher (packBlock (key.take 8)) (j / 8) 0 (msg.take j) (msg.drop j) (by omega)
    refine ⟨_, hv.run_take macCommands_runnable hpending (by rw [macCommands_length hkey]; omega), ?_, ?_, ?_⟩
    · simpa [hlength] using habsorbed.bcnt
    · simpa [partialBlock, hlength] using habsorbed.buf
    · exact habsorbed.cv.trans (by rw [hlength, ← hchain, List.take_append_drop])

/-! ### Verification -/

/-- MACGEN and EXP8 (R82). -/
def verifyCommands (key body expected : List Byte) : List Instr := Asm.macgen key body ++ Asm.exp8 expected

section
variable {s : State} {key body expected : List Byte}

theorem verifyCommands_runnable : Runnable (verifyCommands key body expected) := by
  simp [Runnable, verifyCommands, Asm.macgen, Asm.key16, Asm.msg, Asm.exp8, or_imp, forall_and, isMacCommand,
    Instr.opcode, Instr.wellFormed]

theorem verifyCommands_length (hkey : key.length = 16) (hexpected : expected.length = 8) :
    (verifyCommands key body expected).length = body.length + 27 := by
  simp [verifyCommands, Asm.macgen, Asm.key16, Asm.msg, Asm.exp8, hkey, hexpected]
  omega

/-- From any state MACGEN and EXP8 succeed, with RMAC in MACR and the expected MAC in EXP. -/
theorem succeeds_verifyCommands (hkey : key.length = 16) (hexpected : expected.length = 8) :
    ∃ v, Succeeds (verifyCommands key body expected) s v ∧ rmac cipher key body = some v.macr ∧ v.macValid = true ∧
      v.expCnt.val = 8 ∧ v.expBlock = packBlock expected := by
  have hclear : Succeeds [.macClr] s s.abortMac.complete := succeeds_singleton rfl
  obtain ⟨u, hu, hcomputed⟩ := succeeds_macCommands (s := s.abortMac.complete) body hkey rfl rfl
  obtain ⟨v, hv, hloaded⟩ := succeeds_expLd hcomputed.expCnt hexpected.le
  have hmacr : v.macr = u.macr := by rw [hloaded.frame]
  have hvalid : v.macValid = true := by rw [hloaded.frame, hcomputed.valid]
  have hexp : v.exp.toList = expected := by
    have htake := hloaded.exp
    rwa [List.take_of_length_le (by simp [hexpected])] at htake
  exact ⟨v, (hclear.append hu).append hv, hmacr ▸ hcomputed.mac, hvalid, hloaded.cnt.trans hexpected,
    congrArg packBlock hexp⟩

end

/-- Settles O50: MAC_CHK runs with RMAC in MACR and the expected MAC in EXP, and compares them. -/
theorem verificationFlow : Obligations.VerificationFlow := by
  intro key body expected s rest hkey hexpected hpending
  obtain ⟨v, hv, hmac, hvalid, hcnt, hexp⟩ := succeeds_verifyCommands (s := s) (body := body) hkey hexpected
  have herr : v.err = s.err := hv.err (by simp [verifyCommands, Asm.macgen, Asm.key16, Asm.msg, Asm.exp8])
  have hrun := hv.run_next verifyCommands_runnable rfl hpending
  rw [verifyCommands_length hkey hexpected] at hrun
  have hiff : rmac cipher key body = some (packBlock expected) ↔ v.expBlock = v.macr := by
    rw [hmac, hexp, Option.some_inj, eq_comm]
  rw [hrun]
  by_cases heq : v.expBlock = v.macr
  · exact ⟨_, exec_macChk_of_eq hvalid hcnt heq, rfl, fun _ => ⟨rfl, rfl, herr⟩, fun hne => absurd (hiff.2 heq) hne⟩
  · exact ⟨_, exec_macChk_of_ne hvalid hcnt heq, rfl, fun h => absurd (hiff.1 h) heq,
      fun _ => ⟨rfl, rfl, herr ▸ rfl, rfl, rfl⟩⟩

end Sys2Proof.Machine
end

section
/-! PROOFS. The block cipher: encryption and decryption undo each other (O53), the low bit of each key byte is not read
(O54), and the vectors (O55) (spec 43_block_cipher.md R160, R165, R172, R173, R175). -/

namespace Sys2Proof.Machine

/-! ### Encryption and decryption -/

/-- Decryption undoes encryption (R160). -/
theorem cipher_dec_enc (k b : Block) : cipher.dec k (cipher.enc k b) = b := by
  rw [cipher_enc, cipher_dec, Des.cipherWith_reverse]

/-- Settles O53: the rounds under the reversed subkeys undo the rounds, from either end. -/
theorem cipherLawful : Obligations.CipherLawful := fun k b => ⟨cipher_dec_enc k b, cipher_enc_dec k b⟩

/-- Decryption gives back the block of a known encryption. -/
theorem cipher_dec_of_enc {k b c : Block} (h : cipher.enc k b = c) : cipher.dec k c = b := h ▸ cipher_dec_enc k b

/-! ### The bits of the key that are read -/

namespace Des

/-- A permutation reads no bit of its input outside a mask that holds the bits its table names. -/
theorem perm_and_mask {n : Nat} (l : Nat) {t : List Nat} {mask : BitVec n}
    (hmask : ∀ j ∈ t, mask.getLsbD (n - j) = true) (v : BitVec n) : perm l t (v &&& mask) = perm l t v := by
  refine List.foldl_ext _ _ _ fun r j hj => ?_
  rw [BitVec.getLsbD_and, hmask j hj, Bool.and_true]

/-- PC-1 names no low bit of a byte, so the key schedule reads none (R165, R169). -/
theorem subkeys_and_mask (k : Block) : subkeys (k &&& 0xFEFEFEFEFEFEFEFE) = subkeys k := by
  have hpc1 : ∀ j ∈ pc1Table, (0xFEFEFEFEFEFEFEFE : Block).getLsbD (64 - j) = true := by decide
  rw [subkeys, subkeys, perm_and_mask 56 hpc1]

end Des

/-- Settles O54: the two keys have the same subkeys, and the key enters the cipher by them alone. -/
theorem parityIgnored : Obligations.ParityIgnored := by
  intro k k' b h
  have hsubkeys : Des.subkeys k = Des.subkeys k' := by
    rw [← Des.subkeys_and_mask k, h, Des.subkeys_and_mask]
  simp only [cipher_enc, cipher_dec, hsubkeys, and_self]

/-! ### The vectors -/

/-- Settles O55: the encryptions and the two subkeys are evaluated; the decryptions undo the encryptions. -/
theorem cipherVectors : Obligations.CipherVectors := by
  have henc1 : cipher.enc 0x133457799BBCDFF1 0x0123456789ABCDEF = 0x85E813540F0AB405 := by decide +kernel
  have henc2 : cipher.enc 0x0123456789ABCDEF 0x0000000000000000 = 0xD5D44FF720683D0D := by decide +kernel
  have henc3 : cipher.enc 0x0123456789ABCDEF 0x3132333435363738 = 0xBD0B1A49070AC376 := by decide +kernel
  have hsubkeys : (Des.subkeys 0x133457799BBCDFF1).head? = some 0x1B02EFFC7072 ∧
      (Des.subkeys 0x133457799BBCDFF1).getLast? = some 0xCB3D8B0E17F5 := by decide +kernel
  exact ⟨henc1, henc2, henc3, cipher_dec_of_enc henc1, cipher_dec_of_enc henc2, cipher_dec_of_enc henc3, hsubkeys⟩

end Sys2Proof.Machine
end

section
/-! PROOFS. The control commands: NOP (O1) and ERR_CLR (O2) (spec 44_control.md R180, R181). -/

namespace Sys2Proof.Machine

/-- NOP succeeds in the state it finds (R180). -/
theorem exec_nop (s : State) : exec .nop s = succeed s := rfl

/-- ERR_CLR succeeds with ERR 0 and no abort undone (R181). -/
theorem exec_errClr (s : State) : exec .errClr s = succeed { s with err := 0 } := rfl

/-- Settles O1: NOP is a success and nothing more, and a success writes CERR alone. -/
theorem nopResult : Obligations.NopResult := fun s => (exec_nop s).trans (succeed_eq s)

/-- Settles O2: ERR_CLR writes ERR, and the success it answers writes CERR alone. -/
theorem errClrResult : Obligations.ErrClrResult := fun s => (exec_errClr s).trans (succeed_eq { s with err := 0 })

end Sys2Proof.Machine
end

section
/-! PROOFS. The error record: a command's outcome is a success or its group's failure (O26), and CERR and ERR keep to the
legal codes (O27) (spec 60_exceptions.md R200, R203, R205, R206). -/

namespace Sys2Proof.Machine

/-! ### A command's outcome -/

/-- A failing command's state is its group's failure, written out (R205, R206). -/
theorem raise_groupOf (i : Instr) (c : ErrCode) (s : State) : raise (groupOf i) c s =
    .next (if isMacCommand i then macFailure c.code s
      else if isLoaderCommand i then loaderFailure c.code s else plainFailure c.code s) := by
  rw [groupOf_eq]
  split_ifs
  · exact raise_mac c s
  · exact raise_loader c s
  · exact raise_other c s

/-- Settles O26, by the two shapes of an outcome: the code raised is not 0 and stands in CERR, and a success keeps ERR
but for ERR_CLR. -/
theorem outcomeRecord : Obligations.OutcomeRecord := by
  intro i s t h
  rcases exec_shape i s with ⟨c, hlegal, hc, hraise⟩ | ⟨u, hsucceed, hkept, hcleared, -⟩
  · rw [hraise] at h
    have hcerr : t.cerr = c.code := congrArg State.cerr (Host.Outcome.next.inj h).symm
    rw [raise_groupOf] at h
    rw [hcerr]
    exact .inr ⟨mt (code_eq_zero_iff c).1 hc, hlegal, (Host.Outcome.next.inj h).symm⟩
  · rw [hsucceed, succeed_eq] at h
    cases h
    refine .inl ⟨rfl, ?_⟩
    split_ifs with hi
    · exact hcleared hi
    · exact hkept hi

/-! ### The legal codes -/

/-- ERR and CERR lie among the codes the block writes (R200). -/
def LegalRecord (s : State) : Prop := s.err ∈ legalCodes ∧ s.cerr ∈ legalCodes

@[simp] theorem State.abort_err (g : Group) (s : State) : (s.abort g).err = s.err := by
  cases g <;> rfl

/-- A failure keeps ERR, or records in it the code raised (R203). -/
theorem raise_legalRecord (g : Group) {c : ErrCode} {s : State} (hc : c.code ∈ legalCodes) (h : LegalRecord s) :
    Gives LegalRecord (raise g c s) := by
  refine gives_raise ⟨?_, hc⟩
  rw [State.recordError_err, State.abort_err]
  split
  · exact hc
  · exact h.1

theorem exec_legalRecord (i : Instr) {s : State} (h : LegalRecord s) : Gives LegalRecord (exec i s) := by
  have zero_legal : (0 : BitVec 4) ∈ legalCodes := by decide
  rcases exec_shape i s with ⟨c, hc, -, hraise⟩ | ⟨t, hsucceed, hkept, hcleared, -⟩
  · rw [hraise]
    exact raise_legalRecord _ hc h
  · rw [hsucceed]
    refine gives_succeed ⟨?_, zero_legal⟩
    rw [State.complete_err]
    by_cases hi : i = .errClr
    · rwa [hcleared hi]
    · rw [hkept hi]
      exact h.1

theorem runWord_legalRecord (w : Word) {s : State} (h : LegalRecord s) : Gives LegalRecord (runWord w s) := by
  cases hd : decode w with
  | ok i =>
    rw [runWord_of_decode s hd]
    exact exec_legalRecord i h
  | error e =>
    rw [runWord_of_illegal s hd]
    exact raise_legalRecord _ (by decide) h

/-- Settles O27, by the event the step services: a command records a legal code or none, the platform's reset clears
both registers, and no other event writes them. -/
theorem stepKeepsLegalCodes : Obligations.StepKeepsLegalCodes := by
  intro s t herr hcerr hs
  rcases step_next_cases hs with ⟨-, rfl⟩ | ⟨rest, -, rfl⟩ | ⟨a, n, rest, -, -, rfl⟩ |
    ⟨a, n, w, rest, -, -, -, rfl⟩ | ⟨w, rest, -, hrun⟩
  · exact ⟨herr, hcerr⟩
  · exact resetInvariant.2
  · exact ⟨herr, hcerr⟩
  · exact ⟨herr, hcerr⟩
  · exact (runWord_legalRecord w (s := { s with pending := rest }) ⟨herr, hcerr⟩).of_next hrun

end Sys2Proof.Machine
end

section
/-! PROOFS. Reset and hazards: the key after MAC_FIN or a MAC error (O29), bitmap commands during a load (O31), the
reset values (O44), the platform's reset (O45) and the five-command reset (O48) (spec 60_exceptions.md R207;
70_reset_and_hazards.md R240, R242, R252, R254). -/

namespace Sys2Proof.Machine

/-! ### The key's lifetime -/

/-- The key is zeroized and no computation is open. -/
def KeyGone (s : State) : Prop := s.key = Vector.replicate 16 0 ∧ s.keyCnt = 0 ∧ s.macAct = false

/-- A failure of a MAC command takes the key with it, by ABORT_MAC (R206). -/
theorem macFailure_keyGone (c : BitVec 4) (s : State) : KeyGone (macFailure c s) := ⟨rfl, rfl, rfl⟩

/-- MAC_FIN zeroizes the key, whether it closes a computation or finds none open (R134). -/
theorem exec_macFin_keyGone (s : State) : Gives KeyGone (exec .macFin s) := by
  cases hact : s.macAct with
  | false => exact ⟨_, exec_macFin_of_idle hact, macFailure_keyGone _ s⟩
  | true => exact ⟨_, exec_macFin hact, rfl, rfl, rfl⟩

/-- A MAC command that reports an error has taken the key with it (R207). -/
theorem exec_failed_keyGone {i : Instr} {s t : State} (hi : isMacCommand i = true) (h : exec i s = .next t)
    (hfail : t.cerr ≠ 0) : KeyGone t := by
  rcases outcomeRecord i s t h with ⟨hok, -⟩ | ⟨-, -, hstate⟩
  · exact absurd hok hfail
  · rw [hstate, if_pos hi]
    exact macFailure_keyGone t.cerr s

/-- Settles O29: both ways the key is gone, and MAC_INIT needs one. -/
theorem keyLastsOneMac : Obligations.KeyLastsOneMac := by
  intro i s t hi h hend
  have hgone : KeyGone t := by
    rcases hend with rfl | hfail
    · exact (exec_macFin_keyGone s).of_next h
    · exact exec_failed_keyGone hi h hfail
  obtain ⟨hkey, hcnt, hact⟩ := hgone
  have hshort : t.keyCnt.val ≠ 16 := by simp [hcnt]
  exact ⟨fun j hj => by simp [hkey], hcnt, hact, exec_macInit_of_noKey hact hshort⟩

/-! ### Bitmap commands during a load -/

/-- A register command of the bitmap unit does the same whatever the loader holds, and leaves it. -/
theorem exec_withLoaderOf {i : Instr} (u s : State) (hi : isBitmapCommand i = true) (hreg : isLoaderCommand i = false) :
    Follows (withLoaderOf u) (exec i s) (exec i (withLoaderOf u s)) := by
  have fails (c : ErrCode) : Follows (withLoaderOf u) (raise .other c s) (raise .other c (withLoaderOf u s)) :=
    follows_raise rfl
  cases i with
  | bmClr => exact follows_succeed rfl
  | bmSet idx => exact .ite (fails _) (.ite (follows_succeed rfl) (follows_succeed rfl))
  | bmUnset idx => exact .ite (fails _) (.ite (fails _) (follows_succeed rfl))
  | bmTest idx => exact .ite (fails _) (follows_succeed rfl)
  | bmNext start => exact follows_succeed rfl
  | bmRd half => exact .ite (follows_succeed rfl) (.ite (follows_succeed rfl) (fails _))
  | bmWlen => exact follows_succeed rfl
  | bmWrh pos => exact .ite (fails _) (follows_succeed rfl)
  | bmLdb | bmLdc | bmLde => cases hreg
  | nop | errClr | macClr | keyLd | macInit | macUpd | macFin | expLd | macChk | macRd | macRdh => cases hi

/-- Settles O31: the command commutes with replacing the loader; replacing it by itself changes nothing, so the command
leaves it. -/
theorem bitmapCommandsDuringLoad : Obligations.BitmapCommandsDuringLoad := by
  intro i s t u hi hreg h
  have hframe : t = withLoaderOf s t := (exec_withLoaderOf s s hi hreg).fixed h
  refine ⟨?_, (exec_withLoaderOf u s hi hreg).eq_next h⟩
  rw [hframe]
  exact ⟨rfl, rfl, rfl⟩

/-! ### Reset -/

/-- STATUS assembles to 0 from registers that are all 0 (R23, R240). -/
theorem reset_status : State.reset.status = 0 := by decide

/-- Settles O44: the registers are 0 by the definition of the reset state, the byte registers at each byte. -/
theorem resetValues : Obligations.ResetValues := by
  rintro s rfl
  have zeroBytes (n j : Nat) (hj : j < n) : (Vector.replicate n (0 : Byte))[j] = 0 := Vector.getElem_replicate hj
  exact ⟨rfl, rfl, rfl, rfl, zeroBytes 16, rfl, rfl, rfl, zeroBytes 8, rfl, rfl, rfl, zeroBytes 8, rfl, rfl, rfl, rfl,
    reset_status, rfl⟩

/-- The run of the platform's reset: only the host's side of the window stays (R240). -/
theorem run_reset {s : State} {rest : List HostEvent} (h : s.pending = .reset :: rest) :
    run 1 s = .next { State.reset with pending := rest, responses := s.responses } :=
  run_succ_of_next 0 (step_reset h)

/-- Settles O45: a command word before the reset leaves the host's side of the window, and the reset keeps no more. -/
theorem resetEvent : Obligations.ResetEvent := by
  refine fun s w rest => ⟨run_reset rfl, ?_⟩
  obtain ⟨t, ht, hpending, hresponses⟩ := runWord_samePort w { s with pending := .reset :: rest }
  have hword := (step_commandWrite { s with pending := commandWrite w :: .reset :: rest } w _ rfl).trans ht
  exact (run_succ_of_next 1 hword).trans (hresponses ▸ run_reset hpending)

/-! ### The reset by commands -/

/-- A run that begins with the write of a well-formed command. -/
theorem run_command {s t : State} {i : Instr} {rest : List HostEvent} (n : Nat) (hi : i.wellFormed = true)
    (hpending : s.pending = commandWrite (encode i) :: rest) (h : exec i { s with pending := rest } = .next t) :
    run (n + 1) s = run n t :=
  run_succ_of_next n ((step_command hi hpending).trans h)

/-- MAC_CLR and BM_CLR succeed in any state (R102, R135). -/
theorem run_macClr_bmClr {s : State} {rest : List HostEvent}
    (h : s.pending = commandWrites [.macClr, .bmClr] ++ rest) :
    run 2 s = .next { (s.abortMac.setBm 0).complete with pending := rest } :=
  (run_command 1 rfl h rfl).trans (run_command 0 rfl rfl rfl)

/-- BM_LDB and BM_LDE leave the loader idle and RESULT 0 from any state, since one of them fails: BM_LDB where a load
was open, and otherwise BM_LDE on the load BM_LDB opened (R111, R113, R206). -/
theorem run_bmLdb_bmLde {s : State} {rest : List HostEvent}
    (h : s.pending = commandWrites [.bmLdb, .bmLde] ++ rest) :
    ∃ err cerr, run 2 s = .next { s.abortLd with result := 0, err := err, cerr := cerr, pending := rest } := by
  cases hbusy : s.ldBusy with
  | true => exact ⟨_, _, (run_command 1 rfl h (exec_bmLdb_of_busy hbusy)).trans
      (run_command 0 rfl rfl (exec_bmLde_of_idle rfl))⟩
  | false => exact ⟨_, _, (run_command 1 rfl h (exec_bmLdb_of_idle hbusy)).trans
      (run_command 0 rfl rfl (exec_bmLde_of_busy rfl))⟩

/-- Settles O48: MAC_CLR resets the MAC engine, BM_CLR the bitmap, BM_LDB and BM_LDE the loader and RESULT, and ERR_CLR
the error record, in which one of those two left its error. -/
theorem softReset : Obligations.SoftReset := by
  intro s rest hpending
  have hclear := run_macClr_bmClr (rest := commandWrites [.bmLdb, .bmLde, .errClr] ++ rest) hpending
  obtain ⟨err, cerr, hload⟩ := run_bmLdb_bmLde (rest := commandWrites [.errClr] ++ rest)
    (s := { (s.abortMac.setBm 0).complete with pending := commandWrites [.bmLdb, .bmLde, .errClr] ++ rest }) rfl
  calc run 5 s
    _ = run 3 _ := run_add_of_next 3 hclear
    _ = run 1 _ := run_add_of_next 1 hload
    _ = run 0 _ := run_command 0 rfl rfl (exec_errClr _)
    _ = .next { State.reset with pending := rest, responses := s.responses } := rfl

end Sys2Proof.Machine
end
